-- ==== Sys2Proof/Word.lean ====
section
/-! DEFINITION. The words RBFIFO's ports carry: bytes, 32-bit register words, 16-bit descriptors, the bus
response, and the causes of a bus error with the record a model keeps of each. -/

namespace Sys2Proof

/-- The data unit: one byte (`00_scope.md` section 4). -/
abbrev Byte := BitVec 8

/-- A register word (`20_memory.md` R90). -/
abbrev Word := BitVec 32

/-- A 16-bit operation descriptor (`30_encoding.md` R120). -/
abbrev Desc := BitVec 16

/-- Why a bus transaction gets an error response (`60_exceptions.md` R260). -/
inductive BusErrorCause where
  /-- SIZE = 0b11. -/
  | sizeReserved
  /-- SIZE = 0b00 or 0b01. -/
  | sizeNarrow
  /-- SIZE = 0b10 and `OFFSET[1:0] != 0`. -/
  | misaligned
  /-- SIZE = 0b10, aligned, and no register at OFFSET. -/
  | unmapped
deriving DecidableEq, Repr

/-- One entry of the sticky record `(code, desc)` of bus errors (R260, D35). -/
structure BusErrorRecord where
  cause : BusErrorCause
  desc : Desc
deriving DecidableEq, Repr

/-- The bus response port: `rdata` and `err` (`10_state.md` R33). -/
structure BusResponse where
  rdata : Word
  err : Bool
deriving DecidableEq, Repr

/-- One item of a script: what the block's environment presents at one step. `desc` and `wdata` are the bus
request port, `txReady` the serializer's answer at that edge (`30_encoding.md` R120, R123, R124). -/
structure Request where
  desc : Desc
  wdata : Word
  txReady : Bool
deriving DecidableEq, Repr

end Sys2Proof
end

