-- ==== Sys2Proof/Config.lean ====
section
/-! DEFINITION. The implementation parameters of `00_scope.md` section 4, and the free values: what the spec
leaves open and no proof may see. -/

namespace Sys2Proof

/-- The legal ranges of the parameters (`00_scope.md` section 4, D4, D5, D6). -/
def paramsLegal (rxAw txAw syncStages base : Nat) : Bool :=
  decide (1 ≤ rxAw) && decide (rxAw ≤ 16) && decide (1 ≤ txAw) && decide (txAw ≤ 16) &&
    decide (2 ≤ syncStages) && decide (syncStages ≤ 8) && base % 0x1000 == 0

/-- The parameters of a built block. Illegal ones cannot be written down (R10, `93_implementation_defined.md` U8):
address widths are held, not capacities, and the ranges are a field. -/
structure Config where
  rxAw : Nat
  txAw : Nat
  syncStages : Nat
  base : Nat
  legal : paramsLegal rxAw txAw syncStages base = true
deriving DecidableEq, Repr

/-- Build a block with the given parameters; `none` refuses an illegal choice (U8). -/
def Config.build? (rxAw txAw syncStages base : Nat) : Option Config :=
  if h : paramsLegal rxAw txAw syncStages base = true then some ⟨rxAw, txAw, syncStages, base, h⟩ else none

/-- The reference configuration of the test vectors (`00_scope.md` section 4). DESIGN CHOICE: BASE 0 (entry 2). -/
def Config.reference : Config := ⟨5, 5, 2, 0, by decide⟩

/-- `RX_CAP = 2^RX_AW`. -/
def Config.rxCap (c : Config) : Nat := 2 ^ c.rxAw

/-- `RX_MASK = RX_CAP - 1`. -/
def Config.rxMask (c : Config) : Nat := c.rxCap - 1

/-- `TX_CAP = 2^TX_AW`. -/
def Config.txCap (c : Config) : Nat := 2 ^ c.txAw

/-- `TX_MASK = TX_CAP - 1`. -/
def Config.txMask (c : Config) : Nat := c.txCap - 1

/-- FREE VALUE. The byte of the n-th draw (`00_scope.md` section 5.3 `draw byte`, `41_receive.md` R191, entry 4). -/
opaque Config.drawByte : Nat → Byte

/-- FREE VALUE. What a byte of RX storage holds before its first write since reset (`93_implementation_defined.md` U1,
entry 5): by the number of the reset event and the address. -/
opaque Config.unwrittenRx : Nat → Nat → Byte

/-- FREE VALUE. What a byte of TX storage holds before its first write since reset (U1, entry 5): by the number of the
reset event and the address. -/
opaque Config.unwrittenTx : Nat → Nat → Byte

end Sys2Proof
end

