-- ==== Sys2Proof/Syntax.lean ====
section
/-! DEFINITION. The operations of `30_encoding.md` R129: one constructor per row of spec/opcode_table.json. -/

namespace Sys2Proof

/-- One operation of the block. `tx_ready_i` is no operand: it is the serializer's answer at the edge, not part of
the descriptor (R124). -/
inductive Instr where
  /-- `RD CTRL` (R151). -/
  | rdCtrl
  /-- `RD STATUS` (R153). -/
  | rdStatus
  /-- `RD RXDATA` (R190, R191). -/
  | rdRxdata
  /-- `RD RXCURSOR` (R192). -/
  | rdRxcursor
  /-- `RD RXREMAIN` (R193). -/
  | rdRxremain
  /-- `RD RXEXTRACT` (R194). -/
  | rdRxextract
  /-- `RD RXCOUNT` (R195). -/
  | rdRxcount
  /-- `RD TXDATA` (R211). -/
  | rdTxdata
  /-- `RD TXKICK` (R213). -/
  | rdTxkick
  /-- `RD TXINSERT` (R230). -/
  | rdTxinsert
  /-- `RD TXEXTRACT` (R231). -/
  | rdTxextract
  /-- `RD TXPTR` (R232). -/
  | rdTxptr
  /-- `RD TXLEN` (R233). -/
  | rdTxlen
  /-- `RD TXREMAIN` (R234). -/
  | rdTxremain
  /-- `RD TXCOUNT` (R235). -/
  | rdTxcount
  /-- `RD TXFREE` (R236). -/
  | rdTxfree
  /-- `RD PARAM` (R155). -/
  | rdParam
  /-- `WR CTRL, wdata` (R152). -/
  | wrCtrl (wdata : Word)
  /-- `WR STATUS, wdata` (R154). -/
  | wrStatus (wdata : Word)
  /-- `WR RXDATA, wdata` (R156). -/
  | wrRxdata (wdata : Word)
  /-- `WR RXCURSOR, wdata` (R156). -/
  | wrRxcursor (wdata : Word)
  /-- `WR RXREMAIN, wdata` (R156). -/
  | wrRxremain (wdata : Word)
  /-- `WR RXEXTRACT, wdata` (R156). -/
  | wrRxextract (wdata : Word)
  /-- `WR RXCOUNT, wdata` (R156). -/
  | wrRxcount (wdata : Word)
  /-- `WR TXDATA, wdata` (R210). -/
  | wrTxdata (wdata : Word)
  /-- `WR TXKICK, wdata` (R212). -/
  | wrTxkick (wdata : Word)
  /-- `WR TXINSERT, wdata` (R156). -/
  | wrTxinsert (wdata : Word)
  /-- `WR TXEXTRACT, wdata` (R156). -/
  | wrTxextract (wdata : Word)
  /-- `WR TXPTR, wdata` (R156). -/
  | wrTxptr (wdata : Word)
  /-- `WR TXLEN, wdata` (R156). -/
  | wrTxlen (wdata : Word)
  /-- `WR TXREMAIN, wdata` (R156). -/
  | wrTxremain (wdata : Word)
  /-- `WR TXCOUNT, wdata` (R156). -/
  | wrTxcount (wdata : Word)
  /-- `WR TXFREE, wdata` (R156). -/
  | wrTxfree (wdata : Word)
  /-- `WR PARAM, wdata` (R156). -/
  | wrParam (wdata : Word)
  /-- `EV CLK`: a `clk` edge with no transaction (R157). -/
  | evClk
  /-- `EV RX`: an `rx_clk` edge with `rx_valid_i` and `rx_data_i` (R170, R171, R173). -/
  | evRx (rxValid : Bool) (rxData : Byte)
  /-- `EV RESET`: both domains reset together (R290). -/
  | evReset
deriving DecidableEq, Repr

end Sys2Proof
end

