-- ==== Sys2Proof/WellFormed.lean ====
section
/-! DEFINITION. What is well formed: descriptors that name an operation, and instructions. -/

namespace Sys2Proof

/-- The descriptors that name no operation, range by range as `30_encoding.md` R130 lists them: CLASS 0b11, EVT 0b11,
and the events CLK, RX, RESET with a nonzero reserved ARG. -/
def Desc.isReserved (d : Desc) : Bool :=
  (decide (0xC000 ≤ d.toNat)) ||
  (decide (0xB000 ≤ d.toNat) && decide (d.toNat ≤ 0xBFFF)) ||
  (decide (0x8001 ≤ d.toNat) && decide (d.toNat ≤ 0x8FFF)) ||
  (decide (0x9200 ≤ d.toNat) && decide (d.toNat ≤ 0x9FFF)) ||
  (decide (0xA001 ≤ d.toNat) && decide (d.toNat ≤ 0xAFFF))

/-- A request is well formed if its descriptor names an operation or a bus transaction, legal or not (R130, R131). -/
def Request.wellFormed (r : Request) : Bool := !(Desc.isReserved r.desc)

/-- Every term of `Instr` is well formed: `wdata` is any 32-bit value (R126), `rx_valid_i` and `rx_data_i` are any bit
and byte (R127), and no other operand exists (R128). -/
def Instr.wellFormed (i : Instr) : Bool :=
  match i with
  | .rdCtrl | .rdStatus | .rdRxdata | .rdRxcursor | .rdRxremain | .rdRxextract
  | .rdRxcount | .rdTxdata | .rdTxkick | .rdTxinsert | .rdTxextract | .rdTxptr
  | .rdTxlen | .rdTxremain | .rdTxcount | .rdTxfree | .rdParam
  | .wrCtrl _ | .wrStatus _ | .wrRxdata _ | .wrRxcursor _ | .wrRxremain _ | .wrRxextract _
  | .wrRxcount _ | .wrTxdata _ | .wrTxkick _ | .wrTxinsert _ | .wrTxextract _ | .wrTxptr _
  | .wrTxlen _ | .wrTxremain _ | .wrTxcount _ | .wrTxfree _ | .wrParam _
  | .evClk | .evRx _ _ | .evReset => true

end Sys2Proof
end

