-- ==== Sys2Proof/Decode.lean ====
section
/-! DEFINITION. The register map, the decoder of `30_encoding.md` (total, rejecting by name) and the encoder. -/

namespace Sys2Proof

/-- The registers of `10_state.md` section 5. -/
inductive Reg where
  | ctrl | status | rxdata | rxcursor | rxremain | rxextract | rxcount | txdata | txkick
  | txinsert | txextract | txptr | txlen | txremain | txcount | txfree | param
deriving DecidableEq, Repr

/-- The byte offset of a register in the window (`10_state.md` section 5). -/
def Reg.offset : Reg → BitVec 12
  | .ctrl => 0x000#12
  | .status => 0x004#12
  | .rxdata => 0x008#12
  | .rxcursor => 0x00C#12
  | .rxremain => 0x010#12
  | .rxextract => 0x014#12
  | .rxcount => 0x018#12
  | .txdata => 0x01C#12
  | .txkick => 0x020#12
  | .txinsert => 0x024#12
  | .txextract => 0x028#12
  | .txptr => 0x02C#12
  | .txlen => 0x030#12
  | .txremain => 0x034#12
  | .txcount => 0x038#12
  | .txfree => 0x03C#12
  | .param => 0x040#12

/-- Every register, in the order of its offset. -/
def Reg.all : List Reg :=
  [.ctrl, .status, .rxdata, .rxcursor, .rxremain, .rxextract, .rxcount, .txdata, .txkick,
   .txinsert, .txextract, .txptr, .txlen, .txremain, .txcount, .txfree, .param]

/-- The register at an offset, if one is there (R125). -/
def Reg.ofOffset? (off : BitVec 12) : Option Reg := Reg.all.find? fun r => r.offset == off

/-- The full bus address of a register offset: `BASE + OFFSET` (R121, R128). -/
def Config.busAddress (c : Config) (off : BitVec 12) : Nat := c.base + off.toNat

/-- CLASS, bits 15:14 (R120). -/
def Desc.cls (d : Desc) : BitVec 2 := d.extractLsb' 14 2

/-- SIZE of format B, bits 13:12 (R121). -/
def Desc.size (d : Desc) : BitVec 2 := d.extractLsb' 12 2

/-- OFFSET of format B, bits 11:0 (R121). -/
def Desc.offset (d : Desc) : BitVec 12 := d.extractLsb' 0 12

/-- EVT of format E, bits 13:12 (R122). -/
def Desc.evt (d : Desc) : BitVec 2 := d.extractLsb' 12 2

/-- ARG of format E, bits 11:0 (R122). -/
def Desc.arg (d : Desc) : BitVec 12 := d.extractLsb' 0 12

/-- The length of an operation in bits, known from CLASS alone (R123, R133). -/
def Desc.lengthBits (d : Desc) : Nat := if Desc.cls d = 0b01#2 then 48 else 16

/-- Why a descriptor names no operation (R130). -/
inductive DescError where
  /-- CLASS 0b11. -/
  | reservedClass
  /-- EVT 0b11. -/
  | reservedEvent
  /-- Event CLK with `ARG != 0`. -/
  | clkArgument
  /-- Event RX with `ARG[11:9] != 0`. -/
  | rxArgument
  /-- Event RESET with `ARG != 0`. -/
  | resetArgument
deriving DecidableEq, Repr

/-- What a descriptor and its `wdata` stand for. -/
inductive Decoded where
  /-- An operation of the opcode table. -/
  | instr (i : Instr)
  /-- A bus transaction that gets an error response (R131, R260). -/
  | busError (cause : BusErrorCause)
  /-- No operation at all (R130). -/
  | refused (why : DescError)
deriving DecidableEq, Repr

/-- The read of a register. -/
def readInstr : Reg → Instr
  | .ctrl => .rdCtrl
  | .status => .rdStatus
  | .rxdata => .rdRxdata
  | .rxcursor => .rdRxcursor
  | .rxremain => .rdRxremain
  | .rxextract => .rdRxextract
  | .rxcount => .rdRxcount
  | .txdata => .rdTxdata
  | .txkick => .rdTxkick
  | .txinsert => .rdTxinsert
  | .txextract => .rdTxextract
  | .txptr => .rdTxptr
  | .txlen => .rdTxlen
  | .txremain => .rdTxremain
  | .txcount => .rdTxcount
  | .txfree => .rdTxfree
  | .param => .rdParam

/-- The write of a register. -/
def writeInstr (r : Reg) (wdata : Word) : Instr :=
  match r with
  | .ctrl => .wrCtrl wdata
  | .status => .wrStatus wdata
  | .rxdata => .wrRxdata wdata
  | .rxcursor => .wrRxcursor wdata
  | .rxremain => .wrRxremain wdata
  | .rxextract => .wrRxextract wdata
  | .rxcount => .wrRxcount wdata
  | .txdata => .wrTxdata wdata
  | .txkick => .wrTxkick wdata
  | .txinsert => .wrTxinsert wdata
  | .txextract => .wrTxextract wdata
  | .txptr => .wrTxptr wdata
  | .txlen => .wrTxlen wdata
  | .txremain => .wrTxremain wdata
  | .txcount => .wrTxcount wdata
  | .txfree => .wrTxfree wdata
  | .param => .wrParam wdata

/-- The legality of a bus transaction and its register, the causes in the order of `60_exceptions.md` R262. -/
def checkTransaction (size : BitVec 2) (off : BitVec 12) : Except BusErrorCause Reg :=
  if size = 0b11#2 then .error .sizeReserved
  else if size ≠ 0b10#2 then .error .sizeNarrow
  else if off.extractLsb' 0 2 ≠ 0b00#2 then .error .misaligned
  else
    match Reg.ofOffset? off with
    | some r => .ok r
    | none => .error .unmapped

/-- Decode a bus transaction, given the operation each register's access is. -/
def decodeBus (d : Desc) (access : Reg → Instr) : Decoded :=
  match checkTransaction (Desc.size d) (Desc.offset d) with
  | .ok r => .instr (access r)
  | .error cause => .busError cause

/-- Decode an event (R122, R127, R130). -/
def decodeEvent (d : Desc) : Decoded :=
  if Desc.evt d = 0b00#2 then
    if Desc.arg d = 0#12 then .instr .evClk else .refused .clkArgument
  else if Desc.evt d = 0b01#2 then
    if (Desc.arg d).extractLsb' 9 3 = 0#3 then
      .instr (.evRx ((Desc.arg d).getLsbD 8) ((Desc.arg d).extractLsb' 0 8))
    else .refused .rxArgument
  else if Desc.evt d = 0b10#2 then
    if Desc.arg d = 0#12 then .instr .evReset else .refused .resetArgument
  else .refused .reservedEvent

/-- Decode a descriptor and the second word `wdata`, which only a write carries (R120, R123). -/
def decode (d : Desc) (wdata : Word) : Decoded :=
  if Desc.cls d = 0b00#2 then decodeBus d readInstr
  else if Desc.cls d = 0b01#2 then decodeBus d fun r => writeInstr r wdata
  else if Desc.cls d = 0b10#2 then decodeEvent d
  else .refused .reservedClass

/-- The descriptor of a read: CLASS 0b00, SIZE 0b10, the register's OFFSET (R121, R129). -/
def readDesc (r : Reg) : Desc := 0b00#2 ++ 0b10#2 ++ r.offset

/-- The descriptor of a write: CLASS 0b01, SIZE 0b10, the register's OFFSET (R121, R129). -/
def writeDesc (r : Reg) : Desc := 0b01#2 ++ 0b10#2 ++ r.offset

/-- The words of an operation: its descriptor, and `wdata` if it carries one (R121, R122, R123, R129). -/
def encode : Instr → Desc × Option Word
  | .rdCtrl => (readDesc .ctrl, none)
  | .rdStatus => (readDesc .status, none)
  | .rdRxdata => (readDesc .rxdata, none)
  | .rdRxcursor => (readDesc .rxcursor, none)
  | .rdRxremain => (readDesc .rxremain, none)
  | .rdRxextract => (readDesc .rxextract, none)
  | .rdRxcount => (readDesc .rxcount, none)
  | .rdTxdata => (readDesc .txdata, none)
  | .rdTxkick => (readDesc .txkick, none)
  | .rdTxinsert => (readDesc .txinsert, none)
  | .rdTxextract => (readDesc .txextract, none)
  | .rdTxptr => (readDesc .txptr, none)
  | .rdTxlen => (readDesc .txlen, none)
  | .rdTxremain => (readDesc .txremain, none)
  | .rdTxcount => (readDesc .txcount, none)
  | .rdTxfree => (readDesc .txfree, none)
  | .rdParam => (readDesc .param, none)
  | .wrCtrl wdata => (writeDesc .ctrl, some wdata)
  | .wrStatus wdata => (writeDesc .status, some wdata)
  | .wrRxdata wdata => (writeDesc .rxdata, some wdata)
  | .wrRxcursor wdata => (writeDesc .rxcursor, some wdata)
  | .wrRxremain wdata => (writeDesc .rxremain, some wdata)
  | .wrRxextract wdata => (writeDesc .rxextract, some wdata)
  | .wrRxcount wdata => (writeDesc .rxcount, some wdata)
  | .wrTxdata wdata => (writeDesc .txdata, some wdata)
  | .wrTxkick wdata => (writeDesc .txkick, some wdata)
  | .wrTxinsert wdata => (writeDesc .txinsert, some wdata)
  | .wrTxextract wdata => (writeDesc .txextract, some wdata)
  | .wrTxptr wdata => (writeDesc .txptr, some wdata)
  | .wrTxlen wdata => (writeDesc .txlen, some wdata)
  | .wrTxremain wdata => (writeDesc .txremain, some wdata)
  | .wrTxcount wdata => (writeDesc .txcount, some wdata)
  | .wrTxfree wdata => (writeDesc .txfree, some wdata)
  | .wrParam wdata => (writeDesc .param, some wdata)
  | .evClk => (0b10#2 ++ 0b00#2 ++ 0#12, none)
  | .evRx rxValid rxData => (0b10#2 ++ 0b01#2 ++ 0#3 ++ BitVec.ofBool rxValid ++ rxData, none)
  | .evReset => (0b10#2 ++ 0b10#2 ++ 0#12, none)

/-- The descriptor in an instruction numbered as spec/opcode_table.json numbers bits: the low 16 bits. Bits at and above
`nbits` are 0. -/
def tableDesc (nbits w : Nat) : Desc := BitVec.ofNat 16 (w % 2 ^ nbits)

/-- The second word `wdata` in the same numbering: bits 47:16. -/
def tableWdata (nbits w : Nat) : Word := BitVec.ofNat 32 (w % 2 ^ nbits / 2 ^ 16)

/-- The instruction the decoder reads from an instruction numbered as the opcode table numbers its bits. -/
def decodeTableWord (nbits w : Nat) : Option Instr :=
  match decode (tableDesc nbits w) (tableWdata nbits w) with
  | .instr i => some i
  | .busError _ => none
  | .refused _ => none

end Sys2Proof
end

