-- ==== Sys2Proof/Machine/State.lean ====
section
/-! DEFINITION. The state of RBFIFO (`10_state.md` section 3) as plain data, the reasons a step can stop, and the state
after reset. -/

namespace Sys2Proof.Machine

/-- One storage array: the bytes written since reset, as (address, byte) pairs. The one canonical form is addresses
strictly rising; an address that is not listed holds no known byte (entry 5). -/
abbrev Memory := List Host.Cell

/-- The state of the block, element by element under the spec's names. Numeric elements are natural numbers; their
widths are part of the invariant (`Sys2Proof.Machine.State.widthsOk`, entry 6). -/
structure State where
  /-- The parameters of the built block (R12): read by every rule, written by none (entry 1). -/
  cfg : Config
  /-- `RXMEM` (R37). -/
  rxmem : Memory
  /-- `rx_remain`, 1..RX_CAP (R38). -/
  rxRemain : Nat
  /-- `rx_wgray` (R40). -/
  rxWgray : Nat
  /-- `rxen_sync[0..SYNC_STAGES-1]`, stage 0 first (R41). -/
  rxenSync : List Bool
  /-- `ctrl_rxen` (R50). -/
  ctrlRxen : Bool
  /-- `ctrl_tcie` (R50). -/
  ctrlTcie : Bool
  /-- `rx_sync[0..SYNC_STAGES-1]`, stage 0 first (R42). -/
  rxSync : List Nat
  /-- `rx_rptr` (R43). -/
  rxRptr : Nat
  /-- `TXMEM` (R45). -/
  txmem : Memory
  /-- `tx_ins` (R46). -/
  txIns : Nat
  /-- `tx_ext` (R47). -/
  txExt : Nat
  /-- `tx_active` (R48). -/
  txActive : Bool
  /-- `tx_start` (R48). -/
  txStart : Nat
  /-- `tx_len`, 0..TX_CAP (R48). -/
  txLen : Nat
  /-- `tx_ptr`, 0..TX_CAP, never wrapped (R48). -/
  txPtr : Nat
  /-- `tx_rem` (R48). -/
  txRem : Nat
  /-- `st_tc` (R49). -/
  stTc : Bool
  /-- `st_txack` (R49). -/
  stTxack : Bool
  /-- `cpl_pulse` (R49). -/
  cplPulse : Bool
  /-- `W_total`, the model's count of captures since reset (R60). -/
  wTotal : Nat
  /-- `R_total`, the model's count of bytes read since reset (R60). -/
  rTotal : Nat
  /-- The model's sticky record of bus errors, oldest first, never cleared (R260, D35). -/
  busErrors : List BusErrorRecord
  /-- `tx_ready_i` at the edge being taken (R33, R124, entry 8). -/
  txReadyI : Bool
  /-- The bus response of the last step, if it carried a transaction (R33, R98, entry 9). -/
  resp : Option BusResponse
  /-- The transmitted stream, oldest byte first (R221, entry 10). -/
  txStream : List Byte
  /-- The model's own: how many free bytes have been drawn (R191, entry 4). -/
  draws : Nat
  /-- The model's own: how many reset events there have been, which numbers the free contents of unwritten storage (U1,
  entry 5). -/
  resets : Nat
  /-- The model's own: the requests still to be performed, the next one first (R312, entry 3). -/
  script : List Request
deriving DecidableEq, Repr

/-- Why a step ends in a fault: never. The block's one synchronous error is the bus error response, after which it goes
on (R260, R261), so this type has no constructor (entry 16). Safe: nothing is cut short by it. -/
inductive Fault
deriving DecidableEq, Repr

/-- Why there is no step. -/
inductive Refusal where
  /-- Raised by an arm of `exec` whose instruction has no meaning yet. Safe: the machine stops. -/
  | notModelled (mnemonic : String)
  /-- Raised by `step` on a descriptor that names no operation (R130): the spec says a model has no step for it. Safe. -/
  | reservedDescriptor (why : DescError)
  /-- Raised by `step` when the script is empty: the run has ended (R312, entry 15). Safe. -/
  | endOfScript
deriving DecidableEq, Repr

/-- The machine right after reset, built with the parameters `c`: the reset column of `10_state.md` section 3. Neither
storage has ever been written (U1). -/
def State.resetFor (c : Config) : State where
  cfg := c
  rxmem := []
  rxRemain := c.rxCap
  rxWgray := 0
  rxenSync := List.replicate c.syncStages false
  ctrlRxen := false
  ctrlTcie := false
  rxSync := List.replicate c.syncStages 0
  rxRptr := 0
  txmem := []
  txIns := 0
  txExt := 0
  txActive := false
  txStart := 0
  txLen := 0
  txPtr := 0
  txRem := 0
  stTc := false
  stTxack := false
  cplPulse := false
  wTotal := 0
  rTotal := 0
  busErrors := []
  txReadyI := false
  resp := none
  txStream := []
  draws := 0
  resets := 0
  script := []

/-- The machine right after reset in the reference configuration (`00_scope.md` section 4, entry 2). -/
def State.reset : State := State.resetFor Config.reference

end Sys2Proof.Machine
end

