-- ==== Sys2Proof/Machine/Operands.lean ====
section
/-! DEFINITION. The arithmetic of the cursors and codes (`00_scope.md` sections 5.1 and 5.4), and how register words are
put together and taken apart (`10_state.md` section 5, `30_encoding.md` R126). -/

namespace Sys2Proof.Machine

/-- `wrap_C(v)` of a natural number (`00_scope.md` section 5.1). -/
def wrap (cap v : Nat) : Nat := v % cap

/-- `wrap_C(a - b)`: the difference is computed on the integers and then wrapped (`00_scope.md` section 5.1). -/
def wrapSub (cap a b : Nat) : Nat := (((a : Int) - (b : Int)) % (cap : Int)).toNat

/-- `count_C(i, e)`, the bytes between the consumer cursor `e` and the producer cursor `i` (R14). -/
def ringCount (cap i e : Nat) : Nat := wrapSub cap i e

/-- `bin2gray_k(b) = b ^ (b >> 1)` (R13). -/
def bin2gray (b : Nat) : Nat := b ^^^ (b >>> 1)

/-- `gray2bin_k(g)` (R13): bit `k-1` is `g[k-1]`, and each lower bit is the result's next higher bit xor the bit of `g`.
The recursion is on the width: the bits above bit 0 are `gray2bin_{k-1}(g >> 1)`. -/
def gray2bin : Nat → Nat → Nat
  | 0, _ => 0
  | k + 1, g =>
    let upper := gray2bin k (g >>> 1)
    2 * upper + (upper + g) % 2

/-- `run(e, i)`, the contiguous run from `e` towards `i` (R224). -/
def runLength (cap e i : Nat) : Nat := if i > e then i - e else cap - e

/-- One shift of a synchronizer chain: stage 0 takes the sample, each later stage the one before it (R170, R180). -/
def shiftIn {α : Type} (sample : α) (chain : List α) : List α := (sample :: chain).take chain.length

/-- The last stage of a synchronizer chain of `stages` stages. -/
def lastStage {α : Type} (stages : Nat) (chain : List α) (whenMissing : α) : α :=
  chain.getD (stages - 1) whenMissing

/-- `zext_32` of a number. -/
def zext32 (v : Nat) : Word := BitVec.ofNat 32 v

/-- `zext_32` of a byte (R63, R190). -/
def zextByte (b : Byte) : Word := b.zeroExtend 32

/-- The no-data sentinel of RXDATA (R63, D11). -/
def noDataSentinel : Word := 0xFFFFFFFF#32

/-- CTRL.RXEN of a written word (R61, R126). -/
def ctrlRxenBit (v : Word) : Bool := v.getLsbD 0

/-- CTRL.TCIE of a written word (R61, R126). -/
def ctrlTcieBit (v : Word) : Bool := v.getLsbD 1

/-- STATUS.TC of a written word, the W1C bit (R62, R126). -/
def statusTcBit (v : Word) : Bool := v.getLsbD 5

/-- TXDATA.DATA of a written word (R68, R126). -/
def txdataByte (v : Word) : Byte := v.extractLsb' 0 8

/-- The PARAM word of a built block (R77, R155). -/
def paramWord (c : Config) : Word :=
  0x01#8 ++ 0#4 ++ BitVec.ofNat 4 c.syncStages ++ 0#3 ++ BitVec.ofNat 5 c.txAw ++ 0#3 ++ BitVec.ofNat 5 c.rxAw

/-- The cause code of a bus error (R260). -/
def busErrorCode : BusErrorCause → Nat
  | .sizeReserved => 1
  | .sizeNarrow => 2
  | .misaligned => 3
  | .unmapped => 4

end Sys2Proof.Machine
end

