-- ==== Sys2Proof/Machine/Storage.lean ====
section
/-! DEFINITION. The two storage arrays (R37, R45, R78): their canonical form, one read and one write. -/

namespace Sys2Proof.Machine

/-- The canonical form of storage: addresses strictly rising. -/
def Memory.wf : Memory → Bool
  | [] => true
  | [_] => true
  | (a, _) :: (b, y) :: rest => decide (a < b) && Memory.wf ((b, y) :: rest)

/-- The byte written last at an address; `none` where nothing has been written since reset. -/
def Memory.read? : Memory → Nat → Option Byte
  | [], _ => none
  | (x, b) :: rest, a => if x = a then some b else Memory.read? rest a

/-- Write one byte, keeping the canonical form. -/
def Memory.write : Memory → Nat → Byte → Memory
  | [], a, b => [(a, b)]
  | (x, c) :: rest, a, b =>
    if a < x then (a, b) :: (x, c) :: rest
    else if a = x then (a, b) :: rest
    else (x, c) :: Memory.write rest a b

/-- `RXMEM[a]`. A byte not written since reset is a free value, the same one at every read (U1, entry 5). -/
def rxByte (s : State) (a : Nat) : Byte := (Memory.read? s.rxmem a).getD (Config.unwrittenRx s.resets a)

/-- `TXMEM[a]`. A byte not written since reset is a free value, the same one at every read (U1, entry 5). -/
def txByte (s : State) (a : Nat) : Byte := (Memory.read? s.txmem a).getD (Config.unwrittenTx s.resets a)

end Sys2Proof.Machine
end

