-- ==== Sys2Proof/Machine/Flags.lean ====
section
/-! DEFINITION. The derived values of `10_state.md` section 4 and the words of CTRL and STATUS. Each is a function of the
current state only. -/

namespace Sys2Proof.Machine

/-- `rx_wptr`, the RX insert cursor, derived from the remaining count (R39). -/
def rxWptr (s : State) : Nat := wrapSub s.cfg.rxCap s.cfg.rxCap s.rxRemain

/-- `rx_wsync`, the `clk` domain's view of the RX producer position (R42). -/
def rxWsync (s : State) : Nat := gray2bin s.cfg.rxAw (lastStage s.cfg.syncStages s.rxSync 0)

/-- `rxen_sync[SYNC_STAGES-1]`, the enable the capture logic reads (R41). -/
def rxEnabled (s : State) : Bool := lastStage s.cfg.syncStages s.rxenSync false

/-- `rx_empty` (R51). -/
def rxEmpty (s : State) : Bool := rxWsync s == s.rxRptr

/-- `rx_ne` (R51). -/
def rxNe (s : State) : Bool := !(rxEmpty s)

/-- `rx_count` (R52). -/
def rxCount (s : State) : Nat := ringCount s.cfg.rxCap (rxWsync s) s.rxRptr

/-- `rx_full` (R52). -/
def rxFull (s : State) : Bool := rxCount s == s.cfg.rxMask

/-- `tx_count` (R53). -/
def txCount (s : State) : Nat := ringCount s.cfg.txCap s.txIns s.txExt

/-- `tx_empty` (R53). -/
def txEmpty (s : State) : Bool := s.txIns == s.txExt

/-- `tx_boundary`, the blocking boundary (R54). -/
def txBoundary (s : State) : Nat := wrapSub s.cfg.txCap s.txExt 1

/-- `tx_full` (R54). -/
def txFull (s : State) : Bool := s.txIns == txBoundary s

/-- `tx_busy` (R55). -/
def txBusy (s : State) : Bool := s.txActive

/-- `tx_free` (R56). -/
def txFree (s : State) : Nat := s.cfg.txMask - txCount s

/-- `tx_valid_o` (R57): the engine's sending phase (R48). -/
def txValidO (s : State) : Bool := s.txActive && s.txRem != 0

/-- `tx_data_o` (R57). While no byte is offered it has no value and no receiver may use one (U3, D36, entry 17). -/
def txDataO (s : State) : Option Byte := if txValidO s then some (txByte s s.txPtr) else none

/-- The engine's done phase, in which the completion step runs at the next `clk` edge (R48, R222). -/
def txDone (s : State) : Bool := s.txActive && s.txRem == 0

/-- `irq_o` (R59). -/
def irqO (s : State) : Bool := s.stTc && s.ctrlTcie

/-- `tx_done_o` (R59). -/
def txDoneO (s : State) : Bool := s.cplPulse

/-- The CTRL word (R61, R151). -/
def ctrlWord (s : State) : Word := 0#30 ++ BitVec.ofBool s.ctrlTcie ++ BitVec.ofBool s.ctrlRxen

/-- The STATUS word, bit 6 first (R62, R153). -/
def statusWord (s : State) : Word :=
  0#25 ++ BitVec.ofBool s.stTxack ++ BitVec.ofBool s.stTc ++ BitVec.ofBool (txBusy s) ++ BitVec.ofBool (txFull s) ++
    BitVec.ofBool (txEmpty s) ++ BitVec.ofBool (rxFull s) ++ BitVec.ofBool (rxNe s)

/-- The value of RXREMAIN, the `clk` domain's image of the remaining count (R65, R193). -/
def rxRemainImage (s : State) : Nat := if rxWsync s = 0 then s.cfg.rxCap else s.cfg.rxCap - rxWsync s

/-- The byte a pop returns is a draw: the producer is `RX_CAP` or more bytes ahead (R191). -/
def rxOverrun (s : State) : Bool := decide (s.cfg.rxMask < s.wTotal - s.rTotal)

/-- `byte_at(rx_rptr)` (R191). The drawn byte is a free value (entry 4). -/
def rxPopByte (s : State) : Byte := if rxOverrun s then Config.drawByte s.draws else rxByte s s.rxRptr

/-- The word an RXDATA read returns (R63, R190). -/
def rxdataWord (s : State) : Word := if rxEmpty s then noDataSentinel else zextByte (rxPopByte s)

end Sys2Proof.Machine
end

