-- ==== Sys2Proof/Machine/Ops.lean ====
section
/-! DEFINITION. The shared operations of an edge. Inside one edge every part reads the state before the edge (R99): an
operation that takes `pre` reads only `pre`, and writes its own elements of `post`, the state being built. -/

namespace Sys2Proof.Machine

/-- The RX pointer synchronizer shifts (R180). -/
def syncShift (pre post : State) : State := { post with rxSync := shiftIn pre.rxWgray pre.rxSync }

/-- No completion step at this edge: `cpl_pulse` falls (R222). -/
def clearPulse (post : State) : State := { post with cplPulse := false }

/-- `arm(e, i)` (R224). -/
def armBlock (e i : Nat) (post : State) : State :=
  { post with
    txActive := true
    txStart := e
    txLen := runLength post.cfg.txCap e i
    txPtr := e
    txRem := runLength post.cfg.txCap e i }

/-- The handshake: the serializer takes `TXMEM[tx_ptr]` (R220, R221). -/
def handshake (pre post : State) : State :=
  { post with
    txPtr := pre.txPtr + 1
    txRem := pre.txRem - 1
    txStream := pre.txStream ++ [txByte pre pre.txPtr] }

/-- The offset the completion step makes of the transfer pointer: `wrap_TX_CAP(tx_ptr)` (R223). -/
def completedOffset (s : State) : Nat := wrap s.cfg.txCap s.txPtr

/-- The completion step's report and cursor: TC, `cpl_pulse`, `tx_ext` (R222). -/
def reportCompletion (pre post : State) : State :=
  { post with stTc := true, cplPulse := true, txExt := completedOffset pre }

/-- The engine goes idle: `tx_start`, `tx_len` and `tx_ptr` keep their values (R48, R222). -/
def goIdle (post : State) : State := { post with txActive := false }

/-- The completion step (R222): report, move the extract cursor, re-arm or idle. -/
def completionStep (pre post : State) : State :=
  if completedOffset pre = pre.txIns then goIdle (reportCompletion pre post)
  else armBlock (completedOffset pre) pre.txIns (reportCompletion pre post)

/-- The TX engine at a `clk` edge: completion step, handshake, or neither (R99, R220, R222). -/
def engineEdge (pre post : State) : State :=
  if txDone pre then completionStep pre post
  else if txValidO pre && pre.txReadyI then handshake pre (clearPulse post)
  else clearPulse post

/-- The parts of every `clk` edge that no transaction decides: synchronizer and engine (R99). -/
def edgeParts (s : State) : State := engineEdge s (syncShift s s)

/-- The transaction of this edge answers (R98). -/
def respond (rdata : Word) (err : Bool) (post : State) : State := { post with resp := some ⟨rdata, err⟩ }

/-- This step carries no transaction, so it has no response (R98, entry 9). -/
def noResponse (post : State) : State := { post with resp := none }

/-- A `clk` edge with a read that has no side effect: the word is of the state before the edge (R93, R94). -/
def readEdge (rdata : Word) (s : State) : State := respond rdata false (edgeParts s)

/-- A `clk` edge with a write that is ignored with an OKAY response (R156). -/
def ignoredWriteEdge (s : State) : State := respond 0#32 false (edgeParts s)

/-- The record of one bus error is added (R260, D35). -/
def recordBusError (cause : BusErrorCause) (desc : Desc) (post : State) : State :=
  { post with busErrors := post.busErrors ++ [⟨cause, desc⟩] }

/-- The block's one synchronous error, its error response: `err = 1`, `rdata = 0`, the register part without effect, the
edge parts done, the record extended (R260). -/
def busErrorEdge (cause : BusErrorCause) (desc : Desc) (s : State) : State :=
  respond 0#32 true (recordBusError cause desc (edgeParts s))

/-- The register part of a CTRL write (R152). -/
def writeCtrl (v : Word) (post : State) : State :=
  { post with ctrlRxen := ctrlRxenBit v, ctrlTcie := ctrlTcieBit v }

/-- TC falls. -/
def clearTc (post : State) : State := { post with stTc := false }

/-- The register part of a STATUS write: W1C of TC, a completion step at the same edge wins (R154). -/
def writeStatus (v : Word) (pre post : State) : State :=
  if txDone pre then post else if statusTcBit v then clearTc post else post

/-- A pop moves the RX extract cursor (R190). -/
def advanceRptr (pre post : State) : State :=
  { post with rxRptr := wrap pre.cfg.rxCap (pre.rxRptr + 1), rTotal := pre.rTotal + 1 }

/-- A draw has been used (R191, entry 4). -/
def countDraw (pre post : State) : State := { post with draws := pre.draws + 1 }

/-- The register part of an RXDATA read: pop if the ring is not empty (R190, R191). -/
def popRx (pre post : State) : State :=
  if rxEmpty pre then post
  else if rxOverrun pre then countDraw pre (advanceRptr pre post)
  else advanceRptr pre post

/-- A TXDATA write is accepted (R210). -/
def acceptByte (b : Byte) (pre post : State) : State :=
  { post with
    txmem := Memory.write pre.txmem pre.txIns b
    txIns := wrap pre.cfg.txCap (pre.txIns + 1)
    stTxack := true }

/-- A TXDATA write is dropped (R210). -/
def dropByte (post : State) : State := { post with stTxack := false }

/-- The register part of a TXDATA write: full is judged before the edge (R104, R210). -/
def writeTxdata (v : Word) (pre post : State) : State :=
  if txFull pre then dropByte post else acceptByte (txdataByte v) pre post

/-- The register part of a TXKICK write: arm if idle before the edge and bytes are pending (R212). -/
def kick (pre post : State) : State :=
  if !pre.txActive && !(txEmpty pre) then armBlock pre.txExt pre.txIns post else post

/-- The enable synchronizer shifts at an `rx_clk` edge (R170). -/
def shiftEnable (pre post : State) : State := { post with rxenSync := shiftIn pre.ctrlRxen pre.rxenSync }

/-- A capture (R171): it reads no consumer cursor and checks for no room (R172). -/
def captureByte (b : Byte) (pre post : State) : State :=
  { post with
    rxmem := Memory.write pre.rxmem (rxWptr pre) b
    rxRemain := if pre.rxRemain = 1 then pre.cfg.rxCap else pre.rxRemain - 1
    rxWgray := bin2gray (wrap pre.cfg.rxCap (rxWptr pre + 1))
    wTotal := pre.wTotal + 1 }

/-- An `rx_clk` edge (R98, R170, R171). -/
def rxEdge (rxValid : Bool) (rxData : Byte) (s : State) : State :=
  if rxValid && rxEnabled s then captureByte rxData s (shiftEnable s (noResponse s))
  else shiftEnable s (noResponse s)

/-- The reset event (R290): every element of `10_state.md` section 3 takes its reset value, the ghost counters become 0.
Both storages keep what they held, which a model treats as unspecified: no byte is known, and every one is a free value
of the new reset (U1, entry 5). The record of bus errors is never cleared (D35); the transmitted stream, the draw
counter and the environment's script and `tx_ready_i` are no state of the block (entry 10). -/
def resetEvent (s : State) : State :=
  { s with
    rxmem := []
    rxRemain := s.cfg.rxCap
    rxWgray := 0
    rxenSync := List.replicate s.cfg.syncStages false
    ctrlRxen := false
    ctrlTcie := false
    rxSync := List.replicate s.cfg.syncStages 0
    rxRptr := 0
    txmem := []
    txIns := 0
    txExt := 0
    txActive := false
    txStart := 0
    txLen := 0
    txPtr := 0
    txRem := 0
    stTc := false
    stTxack := false
    cplPulse := false
    wTotal := 0
    rTotal := 0
    resp := none
    resets := s.resets + 1 }

/-- The next request is taken from the script, and `tx_ready_i` with it (R124, entries 3 and 8). -/
def takeRequest (r : Request) (rest : List Request) (s : State) : State :=
  { s with script := rest, txReadyI := r.txReady }

/-- The request whose descriptor and second word are an instruction numbered as the opcode table numbers its bits, with
`tx_ready_i` as it stands. -/
def tableRequest (s : State) (nbits w : Nat) : Request := ⟨tableDesc nbits w, tableWdata nbits w, s.txReadyI⟩

end Sys2Proof.Machine
end

