-- ==== Sys2Proof/Machine/Control.lean ====
section
/-! DEFINITION. The control operations of `40_control.md`: CTRL, STATUS, PARAM, the idle `clk` edge, and the reset event of
`70_reset_and_hazards.md` R290. -/

namespace Sys2Proof.Machine

/-- `RD CTRL` (R151). -/
def execRdCtrl (s : State) : Host.Outcome State Fault Refusal := .next (readEdge (ctrlWord s) s)

/-- `RD STATUS`: the flags before the edge; TC is not cleared (R153). -/
def execRdStatus (s : State) : Host.Outcome State Fault Refusal := .next (readEdge (statusWord s) s)

/-- `RD PARAM`, a constant of the built block (R155). -/
def execRdParam (s : State) : Host.Outcome State Fault Refusal := .next (readEdge (paramWord s.cfg) s)

/-- `WR CTRL, V` (R152). -/
def execWrCtrl (wdata : Word) (s : State) : Host.Outcome State Fault Refusal :=
  .next (respond 0#32 false (writeCtrl wdata (edgeParts s)))

/-- `WR STATUS, V` (R154). -/
def execWrStatus (wdata : Word) (s : State) : Host.Outcome State Fault Refusal :=
  .next (respond 0#32 false (writeStatus wdata s (edgeParts s)))

/-- `WR PARAM, V`: ignored, OKAY (R156). -/
def execWrParam (_wdata : Word) (s : State) : Host.Outcome State Fault Refusal := .next (ignoredWriteEdge s)

/-- `EV CLK`: only the edge parts, no response (R157). -/
def execEvClk (s : State) : Host.Outcome State Fault Refusal := .next (noResponse (edgeParts s))

/-- `EV RESET` (R290). -/
def execEvReset (s : State) : Host.Outcome State Fault Refusal := .next (resetEvent s)

end Sys2Proof.Machine
end

