-- ==== Sys2Proof/Machine/Receive.lean ====
section
/-! DEFINITION. The receive operations of `41_receive.md`. -/

namespace Sys2Proof.Machine

/-- `RD RXDATA`: the sentinel, or the byte at the extract cursor, which is popped (R190, R191). -/
def execRdRxdata (s : State) : Host.Outcome State Fault Refusal :=
  .next (respond (rxdataWord s) false (popRx s (edgeParts s)))

/-- `RD RXCURSOR` (R192). -/
def execRdRxcursor (s : State) : Host.Outcome State Fault Refusal := .next (readEdge (zext32 (rxWsync s)) s)

/-- `RD RXREMAIN` (R193). -/
def execRdRxremain (s : State) : Host.Outcome State Fault Refusal := .next (readEdge (zext32 (rxRemainImage s)) s)

/-- `RD RXEXTRACT` (R194). -/
def execRdRxextract (s : State) : Host.Outcome State Fault Refusal := .next (readEdge (zext32 s.rxRptr) s)

/-- `RD RXCOUNT` (R195). -/
def execRdRxcount (s : State) : Host.Outcome State Fault Refusal := .next (readEdge (zext32 (rxCount s)) s)

/-- `WR RXDATA, V`: ignored, OKAY (R156). -/
def execWrRxdata (_wdata : Word) (s : State) : Host.Outcome State Fault Refusal := .next (ignoredWriteEdge s)

/-- `WR RXCURSOR, V`: ignored, OKAY (R156). -/
def execWrRxcursor (_wdata : Word) (s : State) : Host.Outcome State Fault Refusal := .next (ignoredWriteEdge s)

/-- `WR RXREMAIN, V`: ignored, OKAY (R156). -/
def execWrRxremain (_wdata : Word) (s : State) : Host.Outcome State Fault Refusal := .next (ignoredWriteEdge s)

/-- `WR RXEXTRACT, V`: ignored, OKAY (R156). -/
def execWrRxextract (_wdata : Word) (s : State) : Host.Outcome State Fault Refusal := .next (ignoredWriteEdge s)

/-- `WR RXCOUNT, V`: ignored, OKAY (R156). -/
def execWrRxcount (_wdata : Word) (s : State) : Host.Outcome State Fault Refusal := .next (ignoredWriteEdge s)

/-- `EV RX`: the enable synchronizer shifts, and the byte is captured if it is valid and capture is enabled (R170, R171,
R173). -/
def execEvRx (rxValid : Bool) (rxData : Byte) (s : State) : Host.Outcome State Fault Refusal :=
  .next (rxEdge rxValid rxData s)

end Sys2Proof.Machine
end

