-- ==== Sys2Proof/Machine/Transmit.lean ====
section
/-! DEFINITION. The transmit operations of `42_transmit.md`. The engine's own steps, handshake and completion, are edge parts of every
`clk` edge (`edgeParts`). -/

namespace Sys2Proof.Machine

/-- `WR TXDATA, V`: the byte is accepted or dropped at the blocking boundary (R210). -/
def execWrTxdata (wdata : Word) (s : State) : Host.Outcome State Fault Refusal :=
  .next (respond 0#32 false (writeTxdata wdata s (edgeParts s)))

/-- `WR TXKICK, V`: ensure a transfer is active; `V` is ignored (R212). -/
def execWrTxkick (_wdata : Word) (s : State) : Host.Outcome State Fault Refusal :=
  .next (respond 0#32 false (kick s (edgeParts s)))

/-- `RD TXDATA`: 0, no stored byte (R211). -/
def execRdTxdata (s : State) : Host.Outcome State Fault Refusal := .next (readEdge 0#32 s)

/-- `RD TXKICK`: 0, no kick (R213). -/
def execRdTxkick (s : State) : Host.Outcome State Fault Refusal := .next (readEdge 0#32 s)

/-- `RD TXINSERT` (R230). -/
def execRdTxinsert (s : State) : Host.Outcome State Fault Refusal := .next (readEdge (zext32 s.txIns) s)

/-- `RD TXEXTRACT` (R231). -/
def execRdTxextract (s : State) : Host.Outcome State Fault Refusal := .next (readEdge (zext32 s.txExt) s)

/-- `RD TXPTR` (R232). -/
def execRdTxptr (s : State) : Host.Outcome State Fault Refusal := .next (readEdge (zext32 s.txPtr) s)

/-- `RD TXLEN` (R233). -/
def execRdTxlen (s : State) : Host.Outcome State Fault Refusal := .next (readEdge (zext32 s.txLen) s)

/-- `RD TXREMAIN` (R234). -/
def execRdTxremain (s : State) : Host.Outcome State Fault Refusal := .next (readEdge (zext32 s.txRem) s)

/-- `RD TXCOUNT` (R235). -/
def execRdTxcount (s : State) : Host.Outcome State Fault Refusal := .next (readEdge (zext32 (txCount s)) s)

/-- `RD TXFREE` (R236). -/
def execRdTxfree (s : State) : Host.Outcome State Fault Refusal := .next (readEdge (zext32 (txFree s)) s)

/-- `WR TXINSERT, V`: ignored, OKAY (R156). -/
def execWrTxinsert (_wdata : Word) (s : State) : Host.Outcome State Fault Refusal := .next (ignoredWriteEdge s)

/-- `WR TXEXTRACT, V`: ignored, OKAY (R156). -/
def execWrTxextract (_wdata : Word) (s : State) : Host.Outcome State Fault Refusal := .next (ignoredWriteEdge s)

/-- `WR TXPTR, V`: ignored, OKAY (R156). -/
def execWrTxptr (_wdata : Word) (s : State) : Host.Outcome State Fault Refusal := .next (ignoredWriteEdge s)

/-- `WR TXLEN, V`: ignored, OKAY (R156). -/
def execWrTxlen (_wdata : Word) (s : State) : Host.Outcome State Fault Refusal := .next (ignoredWriteEdge s)

/-- `WR TXREMAIN, V`: ignored, OKAY (R156). -/
def execWrTxremain (_wdata : Word) (s : State) : Host.Outcome State Fault Refusal := .next (ignoredWriteEdge s)

/-- `WR TXCOUNT, V`: ignored, OKAY (R156). -/
def execWrTxcount (_wdata : Word) (s : State) : Host.Outcome State Fault Refusal := .next (ignoredWriteEdge s)

/-- `WR TXFREE, V`: ignored, OKAY (R156). -/
def execWrTxfree (_wdata : Word) (s : State) : Host.Outcome State Fault Refusal := .next (ignoredWriteEdge s)

end Sys2Proof.Machine
end

