-- ==== Sys2Proof/Machine/Dispatch.lean ====
section
/-! DEFINITION. One arm per operation, each one call of its meaning. -/

namespace Sys2Proof.Machine

def exec (i : Instr) (s : State) : Host.Outcome State Fault Refusal :=
  match i with
  | .rdCtrl => Sys2Proof.Machine.execRdCtrl s
  | .rdStatus => Sys2Proof.Machine.execRdStatus s
  | .rdRxdata => Sys2Proof.Machine.execRdRxdata s
  | .rdRxcursor => Sys2Proof.Machine.execRdRxcursor s
  | .rdRxremain => Sys2Proof.Machine.execRdRxremain s
  | .rdRxextract => Sys2Proof.Machine.execRdRxextract s
  | .rdRxcount => Sys2Proof.Machine.execRdRxcount s
  | .rdTxdata => Sys2Proof.Machine.execRdTxdata s
  | .rdTxkick => Sys2Proof.Machine.execRdTxkick s
  | .rdTxinsert => Sys2Proof.Machine.execRdTxinsert s
  | .rdTxextract => Sys2Proof.Machine.execRdTxextract s
  | .rdTxptr => Sys2Proof.Machine.execRdTxptr s
  | .rdTxlen => Sys2Proof.Machine.execRdTxlen s
  | .rdTxremain => Sys2Proof.Machine.execRdTxremain s
  | .rdTxcount => Sys2Proof.Machine.execRdTxcount s
  | .rdTxfree => Sys2Proof.Machine.execRdTxfree s
  | .rdParam => Sys2Proof.Machine.execRdParam s
  | .wrCtrl wdata => Sys2Proof.Machine.execWrCtrl wdata s
  | .wrStatus wdata => Sys2Proof.Machine.execWrStatus wdata s
  | .wrRxdata wdata => Sys2Proof.Machine.execWrRxdata wdata s
  | .wrRxcursor wdata => Sys2Proof.Machine.execWrRxcursor wdata s
  | .wrRxremain wdata => Sys2Proof.Machine.execWrRxremain wdata s
  | .wrRxextract wdata => Sys2Proof.Machine.execWrRxextract wdata s
  | .wrRxcount wdata => Sys2Proof.Machine.execWrRxcount wdata s
  | .wrTxdata wdata => Sys2Proof.Machine.execWrTxdata wdata s
  | .wrTxkick wdata => Sys2Proof.Machine.execWrTxkick wdata s
  | .wrTxinsert wdata => Sys2Proof.Machine.execWrTxinsert wdata s
  | .wrTxextract wdata => Sys2Proof.Machine.execWrTxextract wdata s
  | .wrTxptr wdata => Sys2Proof.Machine.execWrTxptr wdata s
  | .wrTxlen wdata => Sys2Proof.Machine.execWrTxlen wdata s
  | .wrTxremain wdata => Sys2Proof.Machine.execWrTxremain wdata s
  | .wrTxcount wdata => Sys2Proof.Machine.execWrTxcount wdata s
  | .wrTxfree wdata => Sys2Proof.Machine.execWrTxfree wdata s
  | .wrParam wdata => Sys2Proof.Machine.execWrParam wdata s
  | .evClk => Sys2Proof.Machine.execEvClk s
  | .evRx rxValid rxData => Sys2Proof.Machine.execEvRx rxValid rxData s
  | .evReset => Sys2Proof.Machine.execEvReset s

end Sys2Proof.Machine
end

