-- ==== Sys2Proof/Machine/Step.lean ====
section
/-! DEFINITION. One step of the machine: take the next request of the script, decode it, perform it. -/

namespace Sys2Proof.Machine

/-- One step (R98, R120, R312). A bus transaction that names no operation of the table is performed too, with an error
response (R131, R260). A descriptor that names nothing is refused (R130); an empty script is the end of the run. -/
def step (s : State) : Host.Outcome State Fault Refusal :=
  match s.script with
  | [] => .refused .endOfScript
  | r :: rest =>
    match decode r.desc r.wdata with
    | .instr i => exec i (takeRequest r rest s)
    | .busError cause => .next (busErrorEdge cause r.desc (takeRequest r rest s))
    | .refused why => .refused (.reservedDescriptor why)

/-- The state with an instruction, numbered as the opcode table numbers its bits, as the next request of the script. -/
def State.withFetchWord (s : State) (nbits w : Nat) : State :=
  { s with script := tableRequest s nbits w :: s.script }

end Sys2Proof.Machine
end

