-- ==== Sys2Proof/Machine/Assembler.lean ====
section
/-! DEFINITION. The assembler's lines and the pseudo-instructions of `30_encoding.md` R134 and R135, as syntax trees: what
each line asks the block to do. They are no operations of their own: each is requests the block performs. -/

namespace Sys2Proof.Machine

/-- The size letters of the raw forms (R134). -/
inductive SizeLetter where
  | b | h | w | x
deriving DecidableEq, Repr

/-- SIZE of a size letter (R134). -/
def sizeField : SizeLetter → BitVec 2
  | .b => 0b00#2
  | .h => 0b01#2
  | .w => 0b10#2
  | .x => 0b11#2

/-- One line of a script (R134). -/
inductive AsmLine where
  /-- `rd REG` -/
  | rd (r : Reg)
  /-- `wr REG, V` -/
  | wr (r : Reg) (v : Word)
  /-- `rd.S OFF` -/
  | rdRaw (size : SizeLetter) (off : BitVec 12)
  /-- `wr.S OFF, V` -/
  | wrRaw (size : SizeLetter) (off : BitVec 12) (v : Word)
  /-- `clk` -/
  | clk
  /-- `rx B` -/
  | rx (b : Byte)
  /-- `rx -` -/
  | rxIdle
  /-- `reset` -/
  | reset
deriving DecidableEq, Repr

/-- The descriptor of a line (R134). -/
def lineDesc : AsmLine → Desc
  | .rd r => 0x2000#16 ||| r.offset.zeroExtend 16
  | .wr r _ => 0x6000#16 ||| r.offset.zeroExtend 16
  | .rdRaw size off => 0b00#2 ++ sizeField size ++ off
  | .wrRaw size off _ => 0b01#2 ++ sizeField size ++ off
  | .clk => 0x8000#16
  | .rx b => 0x9100#16 ||| b.zeroExtend 16
  | .rxIdle => 0x9000#16
  | .reset => 0xA000#16

/-- The `wdata` of a line; 0 where the operation carries none. -/
def lineWdata : AsmLine → Word
  | .wr _ v => v
  | .wrRaw _ _ v => v
  | .rd _ | .rdRaw _ _ | .clk | .rx _ | .rxIdle | .reset => 0#32

/-- The words of a line: its descriptor and its `wdata`. -/
def lineWords (l : AsmLine) : Desc × Word := (lineDesc l, lineWdata l)

/-- The request of a line; `ready` is the suffix `@r` (R134). -/
def lineRequest (ready : Bool) (l : AsmLine) : Request := ⟨lineDesc l, lineWdata l, ready⟩

/-- A line of a script as it is written: how often (`N * line`, 1 where no count is written), with or without the suffix
`@r` (R134). -/
structure ScriptLine where
  count : Nat
  ready : Bool
  line : AsmLine
deriving DecidableEq, Repr

/-- The requests of a script, line by line (R134). -/
def assemble (ls : List ScriptLine) : List Request :=
  ls.flatMap fun l => List.replicate l.count (lineRequest l.ready l.line)

/-- The pseudo-instructions whose expansion is fixed (R135). -/
inductive Pseudo where
  | init | initIrq | getc | putc (b : Byte) | ackc | waitSync
deriving DecidableEq, Repr

/-- The expansion of a pseudo-instruction (R135). -/
def expandPseudo (c : Config) : Pseudo → List AsmLine
  | .init => [.wr .ctrl 0x1#32]
  | .initIrq => [.wr .ctrl 0x3#32]
  | .getc => [.rd .rxdata]
  | .putc b => [.wr .txdata (zextByte b), .rd .status, .wr .txkick 0#32]
  | .ackc => [.wr .status 0x20#32]
  | .waitSync => List.replicate c.syncStages .clk

/-- The result of `putc`: bit 6 (TXACK) of the STATUS word its second line read (R135). -/
def putcResult (status : Word) : Bool := status.getLsbD 6

/-- The number of bytes `write P, N` accepts, given the free space `f` its first line read (R135, R227). -/
def writeResult (n f : Nat) : Nat := min n f

/-- The expansion of `write P, N`: the free space is read once, then as many bytes as fit, then one kick (R135). `f` is
what the first line reads. -/
def expandWrite (p : List Byte) (f : Nat) : List AsmLine :=
  .rd .txfree :: (p.take (writeResult p.length f)).map (fun b => .wr .txdata (zextByte b)) ++
    (if 0 < writeResult p.length f then [.wr .txkick 0#32] else [])

end Sys2Proof.Machine
end

