-- ==== Sys2Proof/Safety.lean ====
section
/-! DEFINITION. The terms claims use: which operations are `clk` edges, what a sound state is (`10_state.md` R81 with the
widths of section 3), what a run may and may not do, and the edge rules as relations between the state before and the
state after. -/

namespace Sys2Proof.Machine

/-- The operations that are a `ClkEdge` (R98): all but `EV RX` and `EV RESET`. -/
def isClkEdge : Instr → Bool
  | .evRx _ _ => false
  | .evReset => false
  | .evClk => true
  | .rdCtrl | .rdStatus | .rdRxdata | .rdRxcursor | .rdRxremain | .rdRxextract | .rdRxcount | .rdTxdata | .rdTxkick
  | .rdTxinsert | .rdTxextract | .rdTxptr | .rdTxlen | .rdTxremain | .rdTxcount | .rdTxfree | .rdParam => true
  | .wrCtrl _ | .wrStatus _ | .wrRxdata _ | .wrRxcursor _ | .wrRxremain _ | .wrRxextract _ | .wrRxcount _ | .wrTxdata _
  | .wrTxkick _ | .wrTxinsert _ | .wrTxextract _ | .wrTxptr _ | .wrTxlen _ | .wrTxremain _ | .wrTxcount _ | .wrTxfree _
  | .wrParam _ => true

/-- The requests that are a `ClkEdge` (R98, R131): every bus transaction, legal or in error, and event CLK. -/
def isClkRequest (r : Request) : Bool := decide (r.desc.toNat ≤ 0x8000)

/-- The requests that are an `RxEdge` (R98, R127): event RX. -/
def isRxRequest (r : Request) : Bool := decide (0x9000 ≤ r.desc.toNat) && decide (r.desc.toNat ≤ 0x91FF)

/-- `n` steps one after another, stopping at the first fault or refusal. -/
def runSteps : Nat → State → Host.Outcome State Fault Refusal
  | 0, s => .next s
  | n + 1, s =>
    match step s with
    | .next t => runSteps n t
    | .fault f => .fault f
    | .refused q => .refused q

/-- The script begins with requests that spell these lines, whatever `tx_ready_i` is at each of their edges, and goes on
with `rest`. -/
def State.willPerform (s : State) (ls : List AsmLine) (rest : List Request) : Prop :=
  ∃ reqs : List Request, s.script = reqs ++ rest ∧ reqs.map (fun r => (r.desc, r.wdata)) = ls.map lineWords

/-- Every element is within the width `10_state.md` section 3 gives it, and the chains have their length. -/
structure State.widthsOk (s : State) : Prop where
  rxRemain : s.rxRemain ≤ s.cfg.rxCap
  rxWgray : s.rxWgray < s.cfg.rxCap
  rxSync : ∀ g ∈ s.rxSync, g < s.cfg.rxCap
  rxSyncLength : s.rxSync.length = s.cfg.syncStages
  rxenSyncLength : s.rxenSync.length = s.cfg.syncStages
  rxRptr : s.rxRptr < s.cfg.rxCap
  txIns : s.txIns < s.cfg.txCap
  txExt : s.txExt < s.cfg.txCap
  txStart : s.txStart < s.cfg.txCap
  txLen : s.txLen ≤ s.cfg.txCap
  txPtr : s.txPtr ≤ s.cfg.txCap
  txRem : s.txRem ≤ s.cfg.txCap

/-- Both storages have their canonical form and no byte outside their capacity (R37, R45). -/
structure State.storageOk (s : State) : Prop where
  rxCanonical : Memory.wf s.rxmem = true
  txCanonical : Memory.wf s.txmem = true
  rxInside : ∀ c ∈ s.rxmem, c.1 < s.cfg.rxCap
  txInside : ∀ c ∈ s.txmem, c.1 < s.cfg.txCap

/-- Items 1, 2 and 6 of R81. Item 2's history is told by capture counts: `rx_wptr` after `n` captures is `n mod RX_CAP`
(item 6), so each stage holds the code of an earlier count, later stages of no later one; and no more bytes have been
read than the last stage has shown. -/
structure State.receiveOk (s : State) : Prop where
  remainPositive : 1 ≤ s.rxRemain
  remainAtMost : s.rxRemain ≤ s.cfg.rxCap
  grayOfWptr : s.rxWgray = bin2gray (rxWptr s)
  history : ∃ seen : List Nat, s.rxSync = seen.map (fun n => bin2gray (n % s.cfg.rxCap)) ∧
    (s.wTotal :: seen).Pairwise (fun later earlier => earlier ≤ later) ∧ ∀ n ∈ seen, s.rTotal ≤ n
  writeTotal : s.wTotal % s.cfg.rxCap = rxWptr s
  readTotal : s.rTotal % s.cfg.rxCap = s.rxRptr

/-- Items 3, 4 and 5 of R81. -/
structure State.transmitOk (s : State) : Prop where
  idleRem : s.txActive = false → s.txRem = 0
  blockStart : s.txActive = true → s.txStart = s.txExt
  blockLen : s.txActive = true → 1 ≤ s.txLen ∧ s.txLen ≤ s.cfg.txCap - s.txStart
  blockRem : s.txActive = true → s.txRem ≤ s.txLen
  blockPtr : s.txActive = true → s.txPtr = s.txStart + s.txLen - s.txRem
  blockUnread : s.txActive = true → s.txLen ≤ txCount s
  countAtMost : txCount s ≤ s.cfg.txMask

/-- What a ring still has to deliver has been written since reset (R290: no rule can read a byte that was not). -/
structure State.writtenOk (s : State) : Prop where
  rxWritten : ∀ a, a < s.wTotal → a < s.cfg.rxCap → (Memory.read? s.rxmem a).isSome = true
  txWritten : ∀ k, k < txCount s → (Memory.read? s.txmem ((s.txExt + k) % s.cfg.txCap)).isSome = true

/-- The invariant of every reachable state. -/
structure State.Inv (s : State) : Prop where
  widths : s.widthsOk
  storage : s.storageOk
  receive : s.receiveOk
  transmit : s.transmitOk
  written : s.writtenOk

/-- No bus error has happened: the premise R260 provides for. -/
def State.noBusError (s : State) : Prop := s.busErrors = []

/-- The service-rate condition of `70_reset_and_hazards.md` R302: the true unread count is at most `RX_CAP - 1`. -/
def State.noOverrun (s : State) : Prop := s.wTotal - s.rTotal ≤ s.cfg.rxMask

/-- TX-quiescent (R312). -/
def State.txQuiescent (s : State) : Prop := s.txActive = false

/-- RX-settled (R312). -/
def State.rxSettled (s : State) : Prop := ∀ g ∈ s.rxSync, g = s.rxWgray

/-- A sound run's states: invariant kept, no bus error, no overrun. -/
structure State.safe (s : State) : Prop where
  inv : s.Inv
  noBusError : s.noBusError
  noOverrun : s.noOverrun

/-- The bytes received and not yet read, oldest first: the slots of captures `R_total` to `W_total - 1` (R191). -/
def rxUnread (s : State) : List Byte :=
  (List.range (s.wTotal - s.rTotal)).map fun k => rxByte s ((s.rxRptr + k) % s.cfg.rxCap)

/-- How many bytes of the armed block have left (R48). -/
def txSent (s : State) : Nat := if s.txActive then s.txLen - s.txRem else 0

/-- The bytes accepted and not yet sent, oldest first: the unread range less what the armed block has sent (R47). -/
def txUnsent (s : State) : List Byte :=
  (List.range (txCount s - txSent s)).map fun k => txByte s ((s.txExt + txSent s + k) % s.cfg.txCap)

/-- The byte an operation puts into the TX ring: that of an accepted TXDATA write (R210). -/
def txAccepted (i : Instr) (s : State) : List Byte :=
  match i with
  | .wrTxdata v => if txFull s then [] else [txdataByte v]
  | _ => []

/-- The byte an operation puts into the RX ring: that of a capture (R171). -/
def rxCaptured (i : Instr) (s : State) : List Byte :=
  match i with
  | .evRx rxValid rxData => if rxValid && rxEnabled s then [rxData] else []
  | _ => []

/-- The byte a request puts into the TX ring; a transaction in error puts none (R260). -/
def txAcceptedBy (r : Request) (s : State) : List Byte :=
  match decode r.desc r.wdata with
  | .instr i => txAccepted i s
  | .busError _ => []
  | .refused _ => []

/-- The byte a request puts into the RX ring; a transaction in error puts none (R260). -/
def rxCapturedBy (r : Request) (s : State) : List Byte :=
  match decode r.desc r.wdata with
  | .instr i => rxCaptured i s
  | .busError _ => []
  | .refused _ => []

/-- The synchronizer's shift, stage by stage (R180). -/
def SyncRule (s t : State) : Prop :=
  t.rxSync.length = s.rxSync.length ∧
  ∀ j, j < s.rxSync.length → t.rxSync[j]? = if j = 0 then some s.rxWgray else s.rxSync[j - 1]?

/-- The armed block after `arm(e, i)` (R224). -/
def ArmedWith (e i : Nat) (t : State) : Prop :=
  t.txActive = true ∧ t.txStart = e ∧ t.txPtr = e ∧
  (e < i → t.txLen = i - e ∧ t.txRem = i - e) ∧
  (i ≤ e → t.txLen = t.cfg.txCap - e ∧ t.txRem = t.cfg.txCap - e)

/-- The block registers and the extract cursor stand still. -/
def EngineKept (s t : State) : Prop :=
  t.txActive = s.txActive ∧ t.txStart = s.txStart ∧ t.txLen = s.txLen ∧ t.txPtr = s.txPtr ∧ t.txRem = s.txRem ∧
  t.txExt = s.txExt

/-- The handshake (R220): one byte leaves, at the transfer pointer. -/
def HandshakeRule (s t : State) : Prop :=
  s.txActive = true → s.txRem ≠ 0 → s.txReadyI = true →
    t.txPtr = s.txPtr + 1 ∧ t.txRem = s.txRem - 1 ∧ t.txActive = true ∧ t.txStart = s.txStart ∧ t.txLen = s.txLen ∧
    t.txExt = s.txExt ∧ t.txStream = s.txStream ++ [txByte s s.txPtr] ∧ t.cplPulse = false

/-- Sending, and the serializer does not take the byte (R220, R228). -/
def StallRule (s t : State) : Prop :=
  s.txActive = true → s.txRem ≠ 0 → s.txReadyI = false →
    EngineKept s t ∧ t.txStream = s.txStream ∧ t.cplPulse = false

/-- The completion step (R222, R223, R224). TC is told by `TcRule`. -/
def CompletionRule (s t : State) : Prop :=
  s.txActive = true → s.txRem = 0 →
    t.cplPulse = true ∧ t.txExt = s.txPtr % s.cfg.txCap ∧ t.txStream = s.txStream ∧
    (s.txPtr % s.cfg.txCap = s.txIns →
      t.txActive = false ∧ t.txStart = s.txStart ∧ t.txLen = s.txLen ∧ t.txPtr = s.txPtr ∧ t.txRem = s.txRem) ∧
    (s.txPtr % s.cfg.txCap ≠ s.txIns → ArmedWith (s.txPtr % s.cfg.txCap) s.txIns t)

/-- Idle, and nothing arms a block (R238). -/
def IdleRule (s t : State) : Prop :=
  s.txActive = false → EngineKept s t ∧ t.txStream = s.txStream ∧ t.cplPulse = false

/-- TC where nothing clears it: set by a completion step, else as it was (R49, R222). -/
def TcRule (s t : State) : Prop :=
  (s.txActive = true ∧ s.txRem = 0 → t.stTc = true) ∧ (¬(s.txActive = true ∧ s.txRem = 0) → t.stTc = s.stTc)

/-- The edge parts of R99 at an edge where no transaction arms a block or clears TC. -/
def EdgeRule (s t : State) : Prop :=
  SyncRule s t ∧ HandshakeRule s t ∧ StallRule s t ∧ CompletionRule s t ∧ IdleRule s t

/-- Frame: the parameters and the environment's inputs. -/
def InputsKept (s t : State) : Prop := t.cfg = s.cfg ∧ t.script = s.script ∧ t.txReadyI = s.txReadyI

/-- Frame: the parameters, the environment's inputs, and the number of the last reset event. -/
def EnvKept (s t : State) : Prop := InputsKept s t ∧ t.resets = s.resets

/-- Frame: the `rx_clk` domain, every byte of RX storage included. -/
def RxDomainKept (s t : State) : Prop :=
  t.rxRemain = s.rxRemain ∧ t.rxWgray = s.rxWgray ∧ t.rxenSync = s.rxenSync ∧ t.wTotal = s.wTotal ∧
  ∀ a, Memory.read? t.rxmem a = Memory.read? s.rxmem a

/-- Frame: the RX consumer. -/
def ConsumerKept (s t : State) : Prop := t.rxRptr = s.rxRptr ∧ t.rTotal = s.rTotal ∧ t.draws = s.draws

/-- Frame: CTRL. -/
def CtrlKept (s t : State) : Prop := t.ctrlRxen = s.ctrlRxen ∧ t.ctrlTcie = s.ctrlTcie

/-- Frame: every byte of TX storage. -/
def TxStorageKept (s t : State) : Prop := ∀ a, Memory.read? t.txmem a = Memory.read? s.txmem a

/-- Frame: the TX producer, every byte of TX storage included. -/
def ProducerKept (s t : State) : Prop := t.txIns = s.txIns ∧ t.stTxack = s.stTxack ∧ TxStorageKept s t

/-- Frame: the record of bus errors. -/
def RecordKept (s t : State) : Prop := t.busErrors = s.busErrors

/-- Everything a transaction without side effect leaves as it was (R94). -/
def PlainFrame (s t : State) : Prop :=
  EnvKept s t ∧ RxDomainKept s t ∧ ConsumerKept s t ∧ CtrlKept s t ∧ ProducerKept s t ∧ RecordKept s t

/-- A `clk` edge whose transaction answers `rdata` with `err = 0` and has no side effect: only the edge parts act. -/
def PlainEdge (rdata : Word) (s t : State) : Prop :=
  t.resp = some ⟨rdata, false⟩ ∧ EdgeRule s t ∧ TcRule s t ∧ PlainFrame s t

/-- An operation completes as a plain edge whose answer satisfies `ok`. -/
def AnswersPlain (i : Instr) (s : State) (ok : Word → Prop) : Prop :=
  ∃ t v, exec i s = .next t ∧ ok v ∧ PlainEdge v s t

/-- A read completes and answers the word `v` with `err = 0`. -/
def ReadsAs (i : Instr) (s : State) (v : Word) : Prop :=
  ∃ t, exec i s = .next t ∧ t.resp = some ⟨v, false⟩

/-- The enable synchronizer's shift, stage by stage (R170). -/
def EnableRule (s t : State) : Prop :=
  t.rxenSync.length = s.rxenSync.length ∧
  ∀ j, j < s.rxenSync.length → t.rxenSync[j]? = if j = 0 then some s.ctrlRxen else s.rxenSync[j - 1]?

/-- Frame: the `clk` domain, every byte of TX storage included, with the record and the transmitted stream. -/
def ClkDomainKept (s t : State) : Prop :=
  CtrlKept s t ∧ ConsumerKept s t ∧ ProducerKept s t ∧ EngineKept s t ∧ RecordKept s t ∧
  t.rxSync = s.rxSync ∧ t.stTc = s.stTc ∧ t.cplPulse = s.cplPulse ∧ t.txStream = s.txStream

end Sys2Proof.Machine
end

