-- ==== Sys2Proof/Certificates/Slice0/Obligations.lean ====
section
/-! DEFINITION. The statements for the provers, file by file of spec/. Each docstring names the rules it rests on. -/

open Sys2Proof Sys2Proof.Machine

/-- O1 (30_encoding.md sections 1 to 3, R121, R122, R123). Decode and encode are inverse to each other, for all 37
operations and every operand value. -/
def Obligations.DecodeInvertsEncode : Prop :=
  (∀ i : Instr, i.wellFormed = true → decode (encode i).1 ((encode i).2.getD 0#32) = .instr i) ∧
  ∀ (d : Desc) (w : Word) (i : Instr), decode d w = .instr i →
    (encode i).1 = d ∧ (encode i).2 = if Desc.cls d = 0b01#2 then some w else none

/-- O2 (R130). The decoder refuses exactly the descriptors that name no operation, each by its own name. -/
def Obligations.RefusedDescriptorsAreTheReservedOnes : Prop :=
  (∀ (d : Desc) (w : Word),
    (decode d w = .refused .reservedClass ↔ 0xC000 ≤ d.toNat) ∧
    (decode d w = .refused .reservedEvent ↔ 0xB000 ≤ d.toNat ∧ d.toNat ≤ 0xBFFF) ∧
    (decode d w = .refused .clkArgument ↔ 0x8001 ≤ d.toNat ∧ d.toNat ≤ 0x8FFF) ∧
    (decode d w = .refused .rxArgument ↔ 0x9200 ≤ d.toNat ∧ d.toNat ≤ 0x9FFF) ∧
    (decode d w = .refused .resetArgument ↔ 0xA001 ≤ d.toNat ∧ d.toNat ≤ 0xAFFF)) ∧
  ∀ (s : State) (r : Request) (rest : List Request) (why : DescError), s.script = r :: rest →
    decode r.desc r.wdata = .refused why → step s = .refused (.reservedDescriptor why)

/-- O3 (R262, R131). A transaction is a bus error for exactly the four causes, the first in priority reported. -/
def Obligations.BusErrorCausesAndTheirPriority : Prop :=
  (∀ (d : Desc) (w : Word) (c : BusErrorCause),
    decode d w = .busError c ↔
      d.toNat < 0x8000 ∧
      ((c = .sizeReserved ∧ d.toNat / 0x1000 % 4 = 3) ∨
       (c = .sizeNarrow ∧ d.toNat / 0x1000 % 4 < 2) ∨
       (c = .misaligned ∧ d.toNat / 0x1000 % 4 = 2 ∧ d.toNat % 4 ≠ 0) ∨
       (c = .unmapped ∧ d.toNat / 0x1000 % 4 = 2 ∧ d.toNat % 4 = 0 ∧ 0x044 ≤ d.toNat % 0x1000))) ∧
  ∀ (s : State) (r : Request) (rest : List Request) (c : BusErrorCause), s.script = r :: rest →
    decode r.desc r.wdata = .busError c →
      ∃ t, step s = .next t ∧ t.resp = some ⟨0#32, true⟩ ∧ PlainFrame (takeRequest r rest s) { t with busErrors := s.busErrors }

/-- O4 (R129, R122). A word of each family, written out from its encoding, decodes to its operation. -/
def Obligations.SampleWordsDecode : Prop :=
  decode 0x2000#16 0#32 = .instr .rdCtrl ∧ decode 0x2008#16 0#32 = .instr .rdRxdata ∧
  decode 0x203C#16 0#32 = .instr .rdTxfree ∧ decode 0x2040#16 0#32 = .instr .rdParam ∧
  decode 0x6000#16 0x3#32 = .instr (.wrCtrl 0x3#32) ∧ decode 0x6014#16 0x5#32 = .instr (.wrRxextract 0x5#32) ∧
  decode 0x601C#16 0x1AB#32 = .instr (.wrTxdata 0x1AB#32) ∧
  decode 0x8000#16 0#32 = .instr .evClk ∧ decode 0x9148#16 0#32 = .instr (.evRx true 0x48#8) ∧
  decode 0x9000#16 0#32 = .instr (.evRx false 0x00#8) ∧ decode 0xA000#16 0#32 = .instr .evReset

/-- O5 (30_encoding.md section 1, R312, R124). A step performs the operation its next request decodes to (script:
the model's choice, entry 3). -/
def Obligations.StepRunsTheDecodedOperation : Prop :=
  (∀ (s : State) (r : Request) (rest : List Request) (i : Instr), s.script = r :: rest →
    decode r.desc r.wdata = .instr i → i.wellFormed = true →
      step s = exec i { s with script := rest, txReadyI := r.txReady }) ∧
  ∀ (s : State) (nbits w : Nat) (i : Instr), decodeTableWord nbits w = some i →
    step (s.withFetchWord nbits w) = exec i s

/-- O6 (R260). A transaction in error answers err with 0, changes no register, records cause and descriptor, and the
edge goes on. -/
def Obligations.BusErrorStepOnlyAnswersAndRecords : Prop :=
  (∀ (s : State) (r : Request) (rest : List Request) (c : BusErrorCause), s.script = r :: rest →
    decode r.desc r.wdata = .busError c →
      ∃ t, step s = .next t ∧ t.resp = some ⟨0#32, true⟩ ∧ t.busErrors = s.busErrors ++ [⟨c, r.desc⟩] ∧
        EdgeRule (takeRequest r rest s) t ∧ TcRule s t ∧ EnvKept (takeRequest r rest s) t ∧ RxDomainKept s t ∧
        ConsumerKept s t ∧ CtrlKept s t ∧ ProducerKept s t) ∧
  (∀ (d : Desc) (w : Word) (c : BusErrorCause), decode d w = .busError c →
    (busErrorCode c = 1 → Desc.size d = 0b11#2) ∧
    (busErrorCode c = 2 → Desc.size d = 0b00#2 ∨ Desc.size d = 0b01#2) ∧
    (busErrorCode c = 3 → Desc.size d = 0b10#2 ∧ (Desc.offset d).toNat % 4 ≠ 0) ∧
    (busErrorCode c = 4 → Desc.size d = 0b10#2 ∧ (Desc.offset d).toNat % 4 = 0 ∧ 0x044 ≤ (Desc.offset d).toNat)) ∧
  ∀ (d : Desc) (w : Word), d.toNat < 0x8000 →
    (Desc.size d ≠ 0b10#2 ∨ (Desc.offset d).toNat % 4 ≠ 0 ∨ 0x044 ≤ (Desc.offset d).toNat) →
      ∃ c, decode d w = .busError c ∧ 1 ≤ busErrorCode c ∧ busErrorCode c ≤ 4

/-- O7 (R130, R131, R261, R312). A step is refused exactly on an empty script or a reserved descriptor, and never
faults (entries 15, 16). -/
def Obligations.StepStopsOnlyAtReservedOrEnd : Prop :=
  ∀ s : State,
    ((∃ t, step s = .next t) ↔ ∃ r rest, s.script = r :: rest ∧ Desc.isReserved r.desc = false) ∧
    ((∃ q, step s = .refused q) ↔
      s.script = [] ∨ ∃ r rest, s.script = r :: rest ∧ Desc.isReserved r.desc = true) ∧
    (step s = .refused .endOfScript ↔ s.script = []) ∧ ∀ f, step s ≠ .fault f

/-- O8 (R151, R153, R155). RD CTRL, RD STATUS and RD PARAM answer their words of the state before the edge and
change nothing. -/
def Obligations.ControlReadsAnswer : Prop :=
  ∀ (s : State) (w : Word),
    decode 0x2000#16 w = .instr .rdCtrl ∧ decode 0x2004#16 w = .instr .rdStatus ∧
    decode 0x2040#16 w = .instr .rdParam ∧
    AnswersPlain .rdCtrl s (fun v =>
      v.getLsbD 0 = s.ctrlRxen ∧ v.getLsbD 1 = s.ctrlTcie ∧ ∀ j, 2 ≤ j → v.getLsbD j = false) ∧
    AnswersPlain .rdStatus s (fun v =>
      v.getLsbD 0 = decide (rxWsync s ≠ s.rxRptr) ∧
      v.getLsbD 1 = decide (((rxWsync s : Int) - s.rxRptr) % s.cfg.rxCap = s.cfg.rxCap - 1) ∧
      v.getLsbD 2 = decide (s.txIns = s.txExt) ∧
      v.getLsbD 3 = decide ((s.txIns : Int) = ((s.txExt : Int) - 1) % s.cfg.txCap) ∧
      v.getLsbD 4 = s.txActive ∧ v.getLsbD 5 = s.stTc ∧ v.getLsbD 6 = s.stTxack ∧
      ∀ j, 7 ≤ j → v.getLsbD j = false) ∧
    AnswersPlain .rdParam s (fun v =>
      v.toNat = s.cfg.rxAw + 2 ^ 8 * s.cfg.txAw + 2 ^ 16 * s.cfg.syncStages + 2 ^ 24)

/-- O9 (R193, R194). RD RXCURSOR, RXREMAIN, RXEXTRACT and RXCOUNT answer the clk domain's view and change nothing. -/
def Obligations.ReceiveReadsAnswer : Prop :=
  ∀ (s : State) (w : Word),
    decode 0x200C#16 w = .instr .rdRxcursor ∧ decode 0x2010#16 w = .instr .rdRxremain ∧
    decode 0x2014#16 w = .instr .rdRxextract ∧ decode 0x2018#16 w = .instr .rdRxcount ∧
    AnswersPlain .rdRxcursor s (fun v => v.toNat = rxWsync s ∧ v.toNat < s.cfg.rxCap) ∧
    AnswersPlain .rdRxremain s (fun v =>
      (rxWsync s = 0 → v.toNat = s.cfg.rxCap) ∧ (rxWsync s ≠ 0 → v.toNat = s.cfg.rxCap - rxWsync s) ∧
      1 ≤ v.toNat ∧ v.toNat ≤ s.cfg.rxCap ∧ (s.cfg.rxCap - v.toNat) % s.cfg.rxCap = rxWsync s) ∧
    AnswersPlain .rdRxextract s (fun v => v = BitVec.ofNat 32 s.rxRptr ∧ (s.widthsOk → v.toNat < s.cfg.rxCap)) ∧
    AnswersPlain .rdRxcount s (fun v => (v.toNat : Int) = ((rxWsync s : Int) - s.rxRptr) % s.cfg.rxCap)

/-- O10 (R230, R234, R236). The seven TX register reads answer their elements and change nothing. -/
def Obligations.TransmitReadsAnswer : Prop :=
  ∀ (s : State) (w : Word),
    decode 0x2024#16 w = .instr .rdTxinsert ∧ decode 0x2028#16 w = .instr .rdTxextract ∧
    decode 0x202C#16 w = .instr .rdTxptr ∧ decode 0x2030#16 w = .instr .rdTxlen ∧
    decode 0x2034#16 w = .instr .rdTxremain ∧ decode 0x2038#16 w = .instr .rdTxcount ∧
    decode 0x203C#16 w = .instr .rdTxfree ∧
    AnswersPlain .rdTxinsert s (fun v => v = BitVec.ofNat 32 s.txIns ∧ (s.widthsOk → v.toNat < s.cfg.txCap)) ∧
    AnswersPlain .rdTxextract s (fun v => v = BitVec.ofNat 32 s.txExt) ∧
    AnswersPlain .rdTxptr s (fun v => v = BitVec.ofNat 32 s.txPtr) ∧
    AnswersPlain .rdTxlen s (fun v => v = BitVec.ofNat 32 s.txLen) ∧
    AnswersPlain .rdTxremain s (fun v => v = BitVec.ofNat 32 s.txRem ∧
      (s.transmitOk → s.txActive = false ∨ txDone s = true → v = 0#32)) ∧
    AnswersPlain .rdTxcount s (fun v => (v.toNat : Int) = ((s.txIns : Int) - s.txExt) % s.cfg.txCap) ∧
    AnswersPlain .rdTxfree s (fun v =>
      (v.toNat : Int) = s.cfg.txCap - 1 - ((s.txIns : Int) - s.txExt) % s.cfg.txCap ∧
      (s.widthsOk → (v.toNat = 0 ↔ txFull s = true) ∧ (v.toNat = s.cfg.txMask ↔ txEmpty s = true)))

/-- O11 (R211, R213). RD TXDATA and RD TXKICK answer 0 and change nothing: no byte, no kick. -/
def Obligations.WriteOnlyRegistersReadZero : Prop :=
  ∀ (s : State) (w : Word),
    decode 0x201C#16 w = .instr .rdTxdata ∧ decode 0x2020#16 w = .instr .rdTxkick ∧
    AnswersPlain .rdTxdata s (fun v => v = 0#32) ∧ AnswersPlain .rdTxkick s (fun v => v = 0#32)

/-- O12 (R156). A write to any of the thirteen read-only registers is ignored with an OKAY response. -/
def Obligations.WritesToReadOnlyRegistersAreIgnored : Prop :=
  ∀ (s : State) (v : Word),
    (decode 0x6008#16 v = .instr (.wrRxdata v) ∧ AnswersPlain (.wrRxdata v) s (fun d => d = 0#32)) ∧
    (decode 0x600C#16 v = .instr (.wrRxcursor v) ∧ AnswersPlain (.wrRxcursor v) s (fun d => d = 0#32)) ∧
    (decode 0x6010#16 v = .instr (.wrRxremain v) ∧ AnswersPlain (.wrRxremain v) s (fun d => d = 0#32)) ∧
    (decode 0x6014#16 v = .instr (.wrRxextract v) ∧ AnswersPlain (.wrRxextract v) s (fun d => d = 0#32)) ∧
    (decode 0x6018#16 v = .instr (.wrRxcount v) ∧ AnswersPlain (.wrRxcount v) s (fun d => d = 0#32)) ∧
    (decode 0x6024#16 v = .instr (.wrTxinsert v) ∧ AnswersPlain (.wrTxinsert v) s (fun d => d = 0#32)) ∧
    (decode 0x6028#16 v = .instr (.wrTxextract v) ∧ AnswersPlain (.wrTxextract v) s (fun d => d = 0#32)) ∧
    (decode 0x602C#16 v = .instr (.wrTxptr v) ∧ AnswersPlain (.wrTxptr v) s (fun d => d = 0#32)) ∧
    (decode 0x6030#16 v = .instr (.wrTxlen v) ∧ AnswersPlain (.wrTxlen v) s (fun d => d = 0#32)) ∧
    (decode 0x6034#16 v = .instr (.wrTxremain v) ∧ AnswersPlain (.wrTxremain v) s (fun d => d = 0#32)) ∧
    (decode 0x6038#16 v = .instr (.wrTxcount v) ∧ AnswersPlain (.wrTxcount v) s (fun d => d = 0#32)) ∧
    (decode 0x603C#16 v = .instr (.wrTxfree v) ∧ AnswersPlain (.wrTxfree v) s (fun d => d = 0#32)) ∧
    (decode 0x6040#16 v = .instr (.wrParam v) ∧ AnswersPlain (.wrParam v) s (fun d => d = 0#32))

/-- O13 (R152). WR CTRL writes RXEN and TCIE and nothing else. -/
def Obligations.WriteCtrlSetsTheTwoEnables : Prop :=
  ∀ (s : State) (v : Word),
    decode 0x6000#16 v = .instr (.wrCtrl v) ∧
    ∃ t, exec (.wrCtrl v) s = .next t ∧ t.resp = some ⟨0#32, false⟩ ∧
      t.ctrlRxen = v.getLsbD 0 ∧ t.ctrlTcie = v.getLsbD 1 ∧ irqO t = (t.stTc && v.getLsbD 1) ∧
      EdgeRule s t ∧ TcRule s t ∧ EnvKept s t ∧ RxDomainKept s t ∧ ConsumerKept s t ∧ ProducerKept s t ∧ RecordKept s t

/-- O14 (R154). WR STATUS clears TC by a 1 in bit 5, and a completion step at the same edge wins. -/
def Obligations.WriteStatusClearsTcUnlessSet : Prop :=
  ∀ (s : State) (v : Word),
    decode 0x6004#16 v = .instr (.wrStatus v) ∧
    ∃ t, exec (.wrStatus v) s = .next t ∧ t.resp = some ⟨0#32, false⟩ ∧
      (s.txActive = true ∧ s.txRem = 0 → t.stTc = true) ∧
      (¬(s.txActive = true ∧ s.txRem = 0) → v.getLsbD 5 = true → t.stTc = false) ∧
      (¬(s.txActive = true ∧ s.txRem = 0) → v.getLsbD 5 = false → t.stTc = s.stTc) ∧
      EdgeRule s t ∧ PlainFrame s t

/-- O15 (R190, R191). RD RXDATA answers the sentinel on an empty ring, else the byte at the extract cursor, and pops
it. -/
def Obligations.ReadRxdataPopsOrAnswersSentinel : Prop :=
  ∀ (s : State) (w : Word),
    decode 0x2008#16 w = .instr .rdRxdata ∧
    ∃ t v, exec .rdRxdata s = .next t ∧ t.resp = some ⟨v, false⟩ ∧
      (v = 0xFFFFFFFF#32 ↔ rxWsync s = s.rxRptr) ∧
      (rxWsync s = s.rxRptr → t.rxRptr = s.rxRptr ∧ t.rTotal = s.rTotal) ∧
      (rxWsync s ≠ s.rxRptr → t.rxRptr = (s.rxRptr + 1) % s.cfg.rxCap ∧ t.rTotal = s.rTotal + 1) ∧
      (rxWsync s ≠ s.rxRptr → s.wTotal - s.rTotal ≤ s.cfg.rxMask →
        v = (rxByte s s.rxRptr).zeroExtend 32) ∧
      (rxWsync s ≠ s.rxRptr → ∃ b : Byte, v = b.zeroExtend 32) ∧
      EdgeRule s t ∧ TcRule s t ∧ EnvKept s t ∧ RxDomainKept s t ∧ CtrlKept s t ∧ ProducerKept s t ∧ RecordKept s t

/-- O16 (R157). EV CLK does the edge parts of every clk edge and nothing else, and has no response. -/
def Obligations.IdleClockEdgeDoesOnlyTheEdgeParts : Prop :=
  ∀ (s : State) (w : Word),
    decode 0x8000#16 w = .instr .evClk ∧
    ∃ t, exec .evClk s = .next t ∧ t.resp = none ∧ EdgeRule s t ∧ TcRule s t ∧ PlainFrame s t ∧
      (s.txActive = false → s.rxSettled → t = { s with cplPulse := false, resp := none })

/-- O17 (R171, R173). EV RX shifts the enable synchronizer, and captures a valid byte when the last stage is 1. -/
def Obligations.ReceiveEdgeCaptures : Prop :=
  ∀ (s : State) (rxValid : Bool) (rxData : Byte) (w : Word),
    decode (BitVec.ofNat 16 (0x9000 + rxValid.toNat * 256 + rxData.toNat)) w = .instr (.evRx rxValid rxData) ∧
    ∃ t, exec (.evRx rxValid rxData) s = .next t ∧ EnableRule s t ∧ EnvKept s t ∧ ClkDomainKept s t ∧
      (rxValid = true → s.rxenSync[s.cfg.syncStages - 1]? = some true →
        Memory.read? t.rxmem (rxWptr s) = some rxData ∧
        (∀ a, a ≠ rxWptr s → Memory.read? t.rxmem a = Memory.read? s.rxmem a) ∧
        (s.rxRemain = 1 → t.rxRemain = s.cfg.rxCap) ∧ (s.rxRemain ≠ 1 → t.rxRemain = s.rxRemain - 1) ∧
        t.rxWgray = bin2gray ((rxWptr s + 1) % s.cfg.rxCap) ∧ t.wTotal = s.wTotal + 1 ∧
        (1 ≤ s.rxRemain → s.rxRemain ≤ s.cfg.rxCap → rxWptr t = (rxWptr s + 1) % s.cfg.rxCap)) ∧
      (rxValid = false ∨ s.rxenSync[s.cfg.syncStages - 1]? ≠ some true →
        t.rxRemain = s.rxRemain ∧ t.rxWgray = s.rxWgray ∧ t.wTotal = s.wTotal ∧
        ∀ a, Memory.read? t.rxmem a = Memory.read? s.rxmem a)

/-- O18 (R210). WR TXDATA accepts its byte, or drops it at the blocking boundary of the state before the edge. -/
def Obligations.WriteTxdataAcceptsOrDrops : Prop :=
  ∀ (s : State) (v : Word),
    decode 0x601C#16 v = .instr (.wrTxdata v) ∧
    ∃ t, exec (.wrTxdata v) s = .next t ∧ t.resp = some ⟨0#32, false⟩ ∧
      ((s.txIns : Int) = ((s.txExt : Int) - 1) % s.cfg.txCap →
        t.stTxack = false ∧ t.txIns = s.txIns ∧ TxStorageKept s t) ∧
      ((s.txIns : Int) ≠ ((s.txExt : Int) - 1) % s.cfg.txCap →
        t.stTxack = true ∧ t.txIns = (s.txIns + 1) % s.cfg.txCap ∧
        Memory.read? t.txmem s.txIns = some (v.extractLsb' 0 8) ∧
        ∀ a, a ≠ s.txIns → Memory.read? t.txmem a = Memory.read? s.txmem a) ∧
      EdgeRule s t ∧ TcRule s t ∧ EnvKept s t ∧ RxDomainKept s t ∧ ConsumerKept s t ∧ CtrlKept s t ∧ RecordKept s t

/-- O19 (R212, R224). WR TXKICK arms the contiguous run at tx_ext if the engine is idle and bytes are pending, else
does nothing. -/
def Obligations.WriteTxkickArmsOnlyWhenIdle : Prop :=
  ∀ (s : State) (v : Word),
    decode 0x6020#16 v = .instr (.wrTxkick v) ∧
    ∃ t, exec (.wrTxkick v) s = .next t ∧ t.resp = some ⟨0#32, false⟩ ∧
      (s.txActive = false → s.txIns ≠ s.txExt → ArmedWith s.txExt s.txIns t) ∧
      (s.txActive = false → s.txIns = s.txExt → EngineKept s t) ∧
      (s.txActive = false → t.txExt = s.txExt ∧ t.txStream = s.txStream ∧ t.cplPulse = false) ∧
      SyncRule s t ∧ HandshakeRule s t ∧ StallRule s t ∧ CompletionRule s t ∧ TcRule s t ∧ PlainFrame s t

/-- O20 (R290). EV RESET gives every element its reset value and leaves no byte of either storage known (entry 5; what
survives: entries 9, 10). -/
def Obligations.ResetEventResetsEveryElement : Prop :=
  ∀ (s : State) (w : Word),
    decode 0xA000#16 w = .instr .evReset ∧
    ∃ t, exec .evReset s = .next t ∧
      t.rxRemain = s.cfg.rxCap ∧ t.rxWgray = 0 ∧ t.rxenSync = List.replicate s.cfg.syncStages false ∧
      t.ctrlRxen = false ∧ t.ctrlTcie = false ∧ t.rxSync = List.replicate s.cfg.syncStages 0 ∧ t.rxRptr = 0 ∧
      t.txIns = 0 ∧ t.txExt = 0 ∧ t.txActive = false ∧ t.txStart = 0 ∧ t.txLen = 0 ∧ t.txPtr = 0 ∧ t.txRem = 0 ∧
      t.stTc = false ∧ t.stTxack = false ∧ t.cplPulse = false ∧ t.wTotal = 0 ∧ t.rTotal = 0 ∧
      (∀ a, Memory.read? t.rxmem a = none ∧ Memory.read? t.txmem a = none) ∧
      (∀ a, rxByte t a = Config.unwrittenRx (s.resets + 1) a ∧ txByte t a = Config.unwrittenTx (s.resets + 1) a) ∧
      t.resets = s.resets + 1 ∧ InputsKept s t ∧
      t.resp = none ∧ RecordKept s t ∧ t.txStream = s.txStream ∧ t.draws = s.draws

/-- O21 (R291). Right after reset every register reads its reset value, in every configuration, and all outputs are
0. -/
def Obligations.ReadsRightAfterReset : Prop :=
  ∀ c : Config,
    ReadsAs .rdCtrl (State.resetFor c) (0#32) ∧
    ReadsAs .rdStatus (State.resetFor c) (0x00000004#32) ∧
    ReadsAs .rdRxdata (State.resetFor c) (0xFFFFFFFF#32) ∧
    ReadsAs .rdRxcursor (State.resetFor c) (0#32) ∧
    ReadsAs .rdRxextract (State.resetFor c) (0#32) ∧
    ReadsAs .rdRxcount (State.resetFor c) (0#32) ∧
    ReadsAs .rdRxremain (State.resetFor c) (BitVec.ofNat 32 c.rxCap) ∧
    ReadsAs .rdTxinsert (State.resetFor c) (0#32) ∧
    ReadsAs .rdTxextract (State.resetFor c) (0#32) ∧
    ReadsAs .rdTxptr (State.resetFor c) (0#32) ∧
    ReadsAs .rdTxlen (State.resetFor c) (0#32) ∧
    ReadsAs .rdTxremain (State.resetFor c) (0#32) ∧
    ReadsAs .rdTxcount (State.resetFor c) (0#32) ∧
    ReadsAs .rdTxfree (State.resetFor c) (BitVec.ofNat 32 c.txMask) ∧
    ReadsAs .rdParam (State.resetFor c)
      (BitVec.ofNat 32 (c.rxAw + 2 ^ 8 * c.txAw + 2 ^ 16 * c.syncStages + 2 ^ 24)) ∧
    irqO (State.resetFor c) = false ∧ txDoneO (State.resetFor c) = false ∧ txValidO (State.resetFor c) = false ∧
    (State.resetFor c).ctrlRxen = false ∧ rxEnabled (State.resetFor c) = false

/-- O22 (R180, R98). At every clk edge, whatever its transaction, the pointer synchronizer shifts rx_wgray in. -/
def Obligations.SynchronizerShiftsAtEveryClkEdge : Prop :=
  ∀ (i : Instr) (s : State), isClkEdge i = true → ∃ t, exec i s = .next t ∧ SyncRule s t

/-- O23 (R220). At every clk edge of the sending phase one byte leaves if tx_ready_i is 1, and none if it is 0. -/
def Obligations.HandshakeAtEveryClkEdge : Prop :=
  ∀ (i : Instr) (s : State), isClkEdge i = true →
    ∃ t, exec i s = .next t ∧ HandshakeRule s t ∧ StallRule s t ∧
      (∀ b, txDataO s = some b → s.txReadyI = true → t.txStream = s.txStream ++ [b]) ∧
      (txValidO s = false → t.txStream = s.txStream)

/-- O24 (R222, R223, R224). At every clk edge of the done phase the completion step moves tx_ext, sets TC, and re-
arms or idles. -/
def Obligations.CompletionStepAtEveryClkEdge : Prop :=
  ∀ (i : Instr) (s : State), isClkEdge i = true →
    ∃ t, exec i s = .next t ∧ CompletionRule s t ∧
      (s.txActive = true ∧ s.txRem = 0 → t.stTc = true) ∧
      (¬(s.txActive = true ∧ s.txRem = 0) → t.cplPulse = false ∧ t.txExt = s.txExt)

/-- O25 (R238). A clk edge with the engine idle moves no TX extract cursor and sets no TC; a kick of an empty ring
is a no-op. -/
def Obligations.NoSpuriousCompletion : Prop :=
  ∀ (i : Instr) (s : State), isClkEdge i = true → s.txActive = false →
    ∃ t, exec i s = .next t ∧ t.txExt = s.txExt ∧ (t.stTc = true → s.stTc = true) ∧ t.cplPulse = false ∧
      t.txStream = s.txStream ∧ ((∀ v, i ≠ .wrTxdata v) → t.txIns = s.txIns) ∧
      (s.txIns = s.txExt → (∃ v, i = .wrTxkick v) → EngineKept s t ∧ t.txIns = s.txIns)

/-- O26 (R228, U12). While tx_ready_i stays 0 a sending block never completes, however many steps are taken. -/
def Obligations.StalledSerializerNeverCompletes : Prop :=
  ∀ (reqs rest : List Request) (s : State), s.txActive = true → s.txRem ≠ 0 → s.script = reqs ++ rest →
    (∀ r ∈ reqs, r.txReady = false ∧ Desc.isReserved r.desc = false ∧ r.desc ≠ 0xA000#16) →
      ∃ t, runSteps reqs.length s = .next t ∧ t.script = rest ∧ EngineKept s t ∧ t.txStream = s.txStream ∧
        (t.stTc = true → s.stTc = true)

/-- O27 (R103, R43, R46, R47, R50, R49). Each cursor, enable, flag and storage changes only by the one operation the
rules name, or by reset. -/
def Obligations.EachFieldHasOneWriter : Prop :=
  ∀ (i : Instr) (s t : State), exec i s = .next t →
    (t.rxRemain ≠ s.rxRemain ∨ t.rxWgray ≠ s.rxWgray → i = .evReset ∨ (∃ b, i = .evRx true b) ∧ rxEnabled s = true) ∧
    ((∃ a, Memory.read? t.rxmem a ≠ Memory.read? s.rxmem a) → i = .evReset ∨ (∃ b, i = .evRx true b) ∧ rxEnabled s = true) ∧
    (t.rxRptr ≠ s.rxRptr → i = .evReset ∨ i = .rdRxdata ∧ rxEmpty s = false) ∧
    (t.txIns ≠ s.txIns → i = .evReset ∨ (∃ v, i = .wrTxdata v) ∧ txFull s = false) ∧
    ((∃ a, Memory.read? t.txmem a ≠ Memory.read? s.txmem a) → i = .evReset ∨ (∃ v, i = .wrTxdata v) ∧ txFull s = false) ∧
    (t.txExt ≠ s.txExt → i = .evReset ∨ isClkEdge i = true ∧ txDone s = true) ∧
    (t.ctrlRxen ≠ s.ctrlRxen ∨ t.ctrlTcie ≠ s.ctrlTcie → i = .evReset ∨ ∃ v, i = .wrCtrl v) ∧
    (s.stTc = true → t.stTc = false → i = .evReset ∨ ∃ v, i = .wrStatus v ∧ v.getLsbD 5 = true) ∧
    (s.stTc = false → t.stTc = true → isClkEdge i = true ∧ txDone s = true) ∧
    (t.stTxack ≠ s.stTxack → i = .evReset ∨ ∃ v, i = .wrTxdata v)

/-- O28 (R12). No step changes a parameter of the built block (held in State by the model's choice, entry 1). -/
def Obligations.ParametersNeverChange : Prop :=
  ∀ s t : State, step s = .next t → t.cfg = s.cfg

/-- O29 (R260, 92_eei_decisions.md D35). A step never shortens the record of bus errors, and extends it exactly when
it answers err. -/
def Obligations.ErrorRecordIsSticky : Prop :=
  ∀ s t : State, step s = .next t →
    ((∃ v, t.resp = some ⟨v, true⟩) →
      ∃ c r rest, s.script = r :: rest ∧ t.busErrors = s.busErrors ++ [⟨c, r.desc⟩]) ∧
    ((∀ v, t.resp ≠ some ⟨v, true⟩) → t.busErrors = s.busErrors)

/-- O30 (R303). After a TXKICK the engine holds a block or the TX ring is empty, whatever the phase before. -/
def Obligations.KickLeavesNoByteBehind : Prop :=
  ∀ (s : State) (v : Word),
    ∃ t, exec (.wrTxkick v) s = .next t ∧ (t.txActive = true ∨ t.txIns = t.txExt)

/-- O31 (R304, R227). TX free space rises only at a completion step, and an accepted byte takes exactly one slot of
it. -/
def Obligations.FreeSpaceGrowsOnlyAtCompletion : Prop :=
  ∀ (i : Instr) (s t : State), s.widthsOk → s.transmitOk → i ≠ .evReset → exec i s = .next t →
    (txFree s < txFree t → isClkEdge i = true ∧ txDone s = true) ∧
    (txDone s = false → (∃ v, i = .wrTxdata v) → txFull s = false → txFree t + 1 = txFree s) ∧
    (txDone s = false → ((∀ v, i ≠ .wrTxdata v) ∨ txFull s = true) → txFree t = txFree s)

/-- O32 (R227, R210, R104). A run of TXDATA writes no longer than the free space read before it is accepted whole
and in order, whatever tx_ready_i is at each edge. -/
def Obligations.WriteRunWithinFreeSpaceIsAccepted : Prop :=
  ∀ (ws : List (Word × Bool)) (rest : List Request) (s : State), s.Inv → ws.length ≤ txFree s →
    s.script = ws.map (fun p => ⟨0x601C#16, p.1, p.2⟩) ++ rest →
      ∃ t, runSteps ws.length s = .next t ∧ t.script = rest ∧
        t.txIns = (s.txIns + ws.length) % s.cfg.txCap ∧ (ws ≠ [] → t.stTxack = true) ∧
        ∀ (k : Nat) (p : Word × Bool), ws[k]? = some p →
          Memory.read? t.txmem ((s.txIns + k) % s.cfg.txCap) = some (p.1.extractLsb' 0 8)

/-- O33 (R38, R41, R42). No clk edge depends on rx_remain or the enable chain, and only RD RXDATA on RX storage. -/
def Obligations.ClkDomainReadsNoReceiveCounter : Prop :=
  ∀ (i : Instr) (s t : State) (remain : Nat) (enables : List Bool) (mem : Memory), isClkEdge i = true →
    exec i s = .next t →
      exec i { s with rxRemain := remain, rxenSync := enables } =
        .next { t with rxRemain := remain, rxenSync := enables } ∧
      (i ≠ .rdRxdata →
        exec i { s with rxRemain := remain, rxenSync := enables, rxmem := mem } =
          .next { t with rxRemain := remain, rxenSync := enables, rxmem := mem })

/-- O34 (R172, R34, R41). An rx_clk edge depends on the clk domain through ctrl_rxen alone: a capture never looks at
the extract cursor. -/
def Obligations.CaptureIgnoresTheConsumer : Prop :=
  ∀ (s u : State) (rxValid : Bool) (rxData : Byte),
    u.cfg = s.cfg → u.rxmem = s.rxmem → u.rxRemain = s.rxRemain → u.rxWgray = s.rxWgray → u.rxenSync = s.rxenSync →
    u.wTotal = s.wTotal → u.ctrlRxen = s.ctrlRxen →
      ∃ t v, exec (.evRx rxValid rxData) s = .next t ∧ exec (.evRx rxValid rxData) u = .next v ∧
        v.rxmem = t.rxmem ∧ v.rxRemain = t.rxRemain ∧ v.rxWgray = t.rxWgray ∧ v.rxenSync = t.rxenSync ∧
        v.wTotal = t.wTotal

/-- O35 (R182, R300; the model's count, entry 14). After SYNC_STAGES or more clk edges, bus errors among them, with no
rx_clk edge between, the clk domain sees the producer position of before them. The count is the model's choice: hardware
may take one edge more, and R182 lets a claim use only that some finite number of edges is enough. -/
def Obligations.ProducerPositionCrossesInSyncStages : Prop :=
  ∀ (reqs rest : List Request) (s : State), s.Inv → s.script = reqs ++ rest → s.cfg.syncStages ≤ reqs.length →
    (∀ r ∈ reqs, isClkRequest r = true) →
      ∃ t, runSteps reqs.length s = .next t ∧ t.script = rest ∧ rxWsync t = rxWptr s ∧ rxWptr t = rxWptr s

/-- O36 (R301, R170; the model's count, entry 14). After SYNC_STAGES or more rx_clk edges, with no clk edge between,
capture follows the CTRL.RXEN of before them. The count is the model's choice: hardware may take one edge more (R310). -/
def Obligations.EnableCrossesInSyncStages : Prop :=
  ∀ (reqs rest : List Request) (s : State), s.rxenSync.length = s.cfg.syncStages → s.script = reqs ++ rest →
    s.cfg.syncStages ≤ reqs.length → (∀ r ∈ reqs, isRxRequest r = true) →
      ∃ t, runSteps reqs.length s = .next t ∧ t.script = rest ∧ rxEnabled t = s.ctrlRxen

/-- O37 (R13). gray2bin inverts bin2gray by the stated bit rule, and consecutive codes, wrap included, differ in one
bit. -/
def Obligations.GrayCodeChangesOneBitAndDecodes : Prop :=
  (∀ k g : Nat, g < 2 ^ (k + 1) →
    (gray2bin (k + 1) g).testBit k = g.testBit k ∧
    ∀ i, i < k → (gray2bin (k + 1) g).testBit i = ((gray2bin (k + 1) g).testBit (i + 1) ^^ g.testBit i)) ∧
  ∀ k b : Nat, 1 ≤ k → b < 2 ^ k →
    gray2bin k (bin2gray b) = b ∧ bin2gray b < 2 ^ k ∧
    (∀ i, (bin2gray b).testBit i = (b.testBit i ^^ b.testBit (i + 1))) ∧
    ∃ j, j < k ∧ ∀ i, ((bin2gray b).testBit i ≠ (bin2gray ((b + 1) % 2 ^ k)).testBit i ↔ i = j)

/-- O38 (R14). A ring is empty when its count is 0 and full when its count is capacity - 1, for both rings. -/
def Obligations.EmptyAndFullAreCountsZeroAndMask : Prop :=
  ∀ s : State, s.widthsOk →
    (txCount s : Int) = ((s.txIns : Int) - s.txExt) % s.cfg.txCap ∧
    (rxCount s : Int) = ((rxWsync s : Int) - s.rxRptr) % s.cfg.rxCap ∧
    txCount s ≤ s.cfg.txCap - 1 ∧ rxCount s ≤ s.cfg.rxCap - 1 ∧
    (txEmpty s = true ↔ txCount s = 0) ∧ (rxEmpty s = true ↔ rxCount s = 0) ∧
    (txFull s = true ↔ txCount s = s.cfg.txCap - 1) ∧ (rxFull s = true ↔ rxCount s = s.cfg.rxCap - 1) ∧
    (txEmpty s = true ↔ s.txIns = s.txExt) ∧ (rxEmpty s = true ↔ rxWsync s = s.rxRptr)

/-- O39 (R101). The clk domain never sees more bytes than are truly unread, nor a position the producer did not
hold. -/
def Obligations.VisibleCountNeverExceedsTrueCount : Prop :=
  ∀ s : State, s.Inv →
    rxCount s ≤ s.wTotal - s.rTotal ∧ s.rTotal ≤ s.wTotal ∧
    ∃ n, s.rTotal ≤ n ∧ n ≤ s.wTotal ∧ rxWsync s = n % s.cfg.rxCap

/-- O40 (R81, 10_state.md section 3). The invariant holds right after reset in every configuration, and after EV
RESET in any state. -/
def Obligations.InvariantHoldsAfterReset : Prop :=
  (∀ c : Config, (State.resetFor c).Inv) ∧ State.reset.Inv ∧
  ∀ s : State, ∃ t, exec .evReset s = .next t ∧ t.Inv

/-- O41 (R81, 10_state.md section 7). Every step, from every state in which the invariant holds, keeps it: R81, the
widths, canonical storage. -/
def Obligations.EveryStepKeepsTheInvariant : Prop :=
  ∀ s t : State, s.Inv → step s = .next t → t.Inv

/-- O42 (R102, R221, R226). The TX ring is a queue at every step but a reset, bus errors included: what was sent and what
is unsent together grow by exactly the accepted byte. -/
def Obligations.TransmitRingIsFifo : Prop :=
  ∀ (s t : State) (r : Request) (rest : List Request), s.Inv → s.script = r :: rest → r.desc ≠ 0xA000#16 →
    step s = .next t → t.txStream ++ txUnsent t = s.txStream ++ txUnsent s ++ txAcceptedBy r s

/-- O43 (R102, R190, R191). Without overrun the RX ring is a queue at every step but a reset, bus errors included:
captures append, an RXDATA pop returns and removes the oldest byte. -/
def Obligations.ReceiveRingIsFifo : Prop :=
  ∀ (s t : State) (r : Request) (rest : List Request), s.Inv → s.noOverrun → t.noOverrun → s.script = r :: rest →
    r.desc ≠ 0xA000#16 → step s = .next t →
      (r.desc ≠ 0x2008#16 → rxUnread t = rxUnread s ++ rxCapturedBy r s) ∧
      (r.desc = 0x2008#16 → rxEmpty s = true → rxUnread t = rxUnread s) ∧
      (r.desc = 0x2008#16 → rxEmpty s = false →
        ∃ b : Byte, t.resp = some ⟨b.zeroExtend 32, false⟩ ∧ rxUnread s = b :: rxUnread t)

/-- O44 (R290, R57, R191). No storage byte is read that was not written after reset: neither by the engine nor by an RXDATA
pop without overrun. -/
def Obligations.OnlyWrittenBytesAreRead : Prop :=
  ∀ s : State, s.Inv →
    (txValidO s = true → s.txPtr < s.cfg.txCap ∧ (Memory.read? s.txmem s.txPtr).isSome = true) ∧
    (rxEmpty s = false → s.noOverrun → (Memory.read? s.rxmem s.rxRptr).isSome = true)

/-- O45 (R226). No operation but a reset overwrites an unread byte of the TX ring. -/
def Obligations.UnsentBytesAreNeverOverwritten : Prop :=
  ∀ (i : Instr) (s t : State), s.Inv → i ≠ .evReset → exec i s = .next t →
    ∀ k, k < txCount s →
      Memory.read? t.txmem ((s.txExt + k) % s.cfg.txCap) = Memory.read? s.txmem ((s.txExt + k) % s.cfg.txCap)

/-- O46 (R59, R263, R267). A completion step with TCIE = 1 raises irq_o and pulses tx_done_o; a STATUS write with
bit 5 lowers irq_o. -/
def Obligations.InterruptIsRaisedAndCleared : Prop :=
  (∀ s : State, irqO s = (s.stTc && s.ctrlTcie)) ∧
  (∀ (i : Instr) (s : State), isClkEdge i = true → (∀ v, i ≠ .wrCtrl v) → s.txActive = true → s.txRem = 0 →
    s.ctrlTcie = true → ∃ t, exec i s = .next t ∧ irqO t = true ∧ txDoneO t = true) ∧
  (∀ (i : Instr) (s : State), isClkEdge i = true → ¬(s.txActive = true ∧ s.txRem = 0) →
    ∃ t, exec i s = .next t ∧ txDoneO t = false) ∧
  ∀ (s : State) (v : Word), ¬(s.txActive = true ∧ s.txRem = 0) → v.getLsbD 5 = true →
    ∃ t, exec (.wrStatus v) s = .next t ∧ irqO t = false

/-- O47 (R37, R45, R78). Storage: a write is read back, leaves every other byte, and keeps the one canonical form
(entry 5). -/
def Obligations.StorageWriteReadsBack : Prop :=
  (∀ (m : Memory) (a : Nat) (b : Byte), Memory.wf m = true →
    Memory.read? (Memory.write m a b) a = some b ∧
    (∀ a', a' ≠ a → Memory.read? (Memory.write m a b) a' = Memory.read? m a') ∧
    Memory.wf (Memory.write m a b) = true) ∧
  ∀ m n : Memory, Memory.wf m = true → Memory.wf n = true → (∀ a, Memory.read? m a = Memory.read? n a) → m = n

/-- O48 (R134; lines are syntax trees, the model's choice, entry 18). Each assembler line, raw lines of every size and
offset included, assembles to the words of the operation it names; the suffix @r is tx_ready_i, and N * line is N copies. -/
def Obligations.AssemblerLinesNameTheirOperations : Prop :=
  (∀ (r : Reg) (v : Word) (b : Byte),
    decode (lineDesc (.rd r)) (lineWdata (.rd r)) = .instr (readInstr r) ∧
    decode (lineDesc (.wr r v)) (lineWdata (.wr r v)) = .instr (writeInstr r v) ∧
    decode (lineDesc .clk) (lineWdata .clk) = .instr .evClk ∧
    decode (lineDesc (.rx b)) (lineWdata (.rx b)) = .instr (.evRx true b) ∧
    decode (lineDesc .rxIdle) (lineWdata .rxIdle) = .instr (.evRx false 0#8) ∧
    decode (lineDesc .reset) (lineWdata .reset) = .instr .evReset ∧
    lineDesc (.rdRaw .w r.offset) = lineDesc (.rd r) ∧ lineDesc (.wrRaw .w r.offset v) = lineDesc (.wr r v)) ∧
  (∀ (off : BitVec 12) (v : Word),
    (lineDesc (.rdRaw .b off)).toNat = off.toNat ∧ (lineDesc (.rdRaw .h off)).toNat = 0x1000 + off.toNat ∧
    (lineDesc (.rdRaw .w off)).toNat = 0x2000 + off.toNat ∧ (lineDesc (.rdRaw .x off)).toNat = 0x3000 + off.toNat ∧
    (lineDesc (.wrRaw .b off v)).toNat = 0x4000 + off.toNat ∧ (lineDesc (.wrRaw .h off v)).toNat = 0x5000 + off.toNat ∧
    (lineDesc (.wrRaw .w off v)).toNat = 0x6000 + off.toNat ∧ (lineDesc (.wrRaw .x off v)).toNat = 0x7000 + off.toNat) ∧
  (∀ (size : SizeLetter) (off : BitVec 12) (v : Word), lineWdata (.wrRaw size off v) = v ∧
    ∀ l, l = .rdRaw size off ∨ l = .wrRaw size off v →
      (size = .x → decode (lineDesc l) (lineWdata l) = .busError .sizeReserved) ∧
      (size = .b ∨ size = .h → decode (lineDesc l) (lineWdata l) = .busError .sizeNarrow) ∧
      (size = .w → off.toNat % 4 ≠ 0 → decode (lineDesc l) (lineWdata l) = .busError .misaligned) ∧
      (size = .w → off.toNat % 4 = 0 → 0x044 ≤ off.toNat → decode (lineDesc l) (lineWdata l) = .busError .unmapped)) ∧
  (∀ (s : State) (ready : Bool) (rest : List Request) (r : Reg) (v : Word),
    (s.script = lineRequest ready (.rd r) :: rest →
      step s = exec (readInstr r) { s with script := rest, txReadyI := ready }) ∧
    (s.script = lineRequest ready (.wr r v) :: rest →
      step s = exec (writeInstr r v) { s with script := rest, txReadyI := ready }) ∧
    (s.script = lineRequest ready .clk :: rest → step s = exec .evClk { s with script := rest, txReadyI := ready })) ∧
  ∀ (n : Nat) (ready : Bool) (l : AsmLine) (ls : List ScriptLine),
    assemble (⟨n, ready, l⟩ :: ls) = List.replicate n ⟨lineDesc l, lineWdata l, ready⟩ ++ assemble ls

/-- O49 (R183, R312). In a settled state RXCOUNT is the true unread count modulo RX_CAP, so a full lap reads as
empty. -/
def Obligations.SettledCountIsTrueCountModCapacity : Prop :=
  ∀ s : State, s.Inv → s.rxSettled →
    rxCount s = (s.wTotal - s.rTotal) % s.cfg.rxCap ∧
    (rxEmpty s = true ↔ (s.wTotal - s.rTotal) % s.cfg.rxCap = 0)

/-- O50 (93_implementation_defined.md U2, 00_scope.md section 5.3). An RXDATA pop after an overrun answers the free
byte of the draw counter, each draw once (entry 4). -/
def Obligations.OverrunPopAnswersTheFreeByte : Prop :=
  ∀ s : State,
    ∃ t v, exec .rdRxdata s = .next t ∧ t.resp = some ⟨v, false⟩ ∧
      (rxWsync s ≠ s.rxRptr → s.cfg.rxMask < s.wTotal - s.rTotal →
        v = (Config.drawByte s.draws).zeroExtend 32 ∧ t.draws = s.draws + 1) ∧
      (rxWsync s = s.rxRptr ∨ s.wTotal - s.rTotal ≤ s.cfg.rxMask → t.draws = s.draws)

/-- O51 (R135; lines are syntax trees, the model's choice, entry 18). Each pseudo-instruction expands to the words the
table of R135 gives it. -/
def Obligations.PseudoInstructionsExpandToTheirWords : Prop :=
  ∀ (c : Config) (b : Byte) (p : List Byte) (f : Nat) (status : Word),
    (expandPseudo c .init).map lineWords = [(0x6000#16, 0x1#32)] ∧
    (expandPseudo c .initIrq).map lineWords = [(0x6000#16, 0x3#32)] ∧
    (expandPseudo c .getc).map lineWords = [(0x2008#16, 0#32)] ∧
    (expandPseudo c (.putc b)).map lineWords =
      [(0x601C#16, b.zeroExtend 32), (0x2004#16, 0#32), (0x6020#16, 0#32)] ∧
    (expandPseudo c .ackc).map lineWords = [(0x6004#16, 0x20#32)] ∧
    (expandPseudo c .waitSync).map lineWords = List.replicate c.syncStages (0x8000#16, 0#32) ∧
    (expandWrite p f).map lineWords =
      (0x203C#16, 0#32) :: (p.take f).map (fun x => (0x601C#16, x.zeroExtend 32)) ++
        (if 0 < min p.length f then [(0x6020#16, 0#32)] else []) ∧
    (p.take f).length = writeResult p.length f ∧ putcResult status = status.getLsbD 6

/-- O52 (R135, R212, R300; entries 14 and 18). Performed as a script, with any tx_ready_i at each edge, the
pseudo-instructions of fixed length do what R135 says of them. wait_sync waits the model's count of edges (entry 14). -/
def Obligations.PseudoInstructionsDoTheirWork : Prop :=
  ∀ (s : State) (rest : List Request),
    (s.willPerform (expandPseudo s.cfg .init) rest →
      ∃ t, runSteps 1 s = .next t ∧ t.script = rest ∧ t.ctrlRxen = true ∧ t.ctrlTcie = false) ∧
    (s.willPerform (expandPseudo s.cfg .initIrq) rest →
      ∃ t, runSteps 1 s = .next t ∧ t.script = rest ∧ t.ctrlRxen = true ∧ t.ctrlTcie = true) ∧
    (s.willPerform (expandPseudo s.cfg .getc) rest →
      ∃ t v, runSteps 1 s = .next t ∧ t.script = rest ∧ t.resp = some ⟨v, false⟩ ∧
        (v = 0xFFFFFFFF#32 ↔ rxEmpty s = true) ∧
        (rxEmpty s = false → s.noOverrun → v = (rxByte s s.rxRptr).zeroExtend 32)) ∧
    (∀ b : Byte, s.willPerform (expandPseudo s.cfg (.putc b)) rest →
      ∃ u t v, runSteps 2 s = .next u ∧ u.resp = some ⟨v, false⟩ ∧ putcResult v = !(txFull s) ∧
        runSteps 3 s = .next t ∧ t.script = rest ∧ (t.txActive = true ∨ t.txIns = t.txExt) ∧
        (txFull s = false → Memory.read? t.txmem s.txIns = some b) ∧ (txFull s = true → TxStorageKept s t)) ∧
    (s.willPerform (expandPseudo s.cfg .ackc) rest → txDone s = false →
      ∃ t, runSteps 1 s = .next t ∧ t.script = rest ∧ t.stTc = false) ∧
    (s.willPerform (expandPseudo s.cfg .waitSync) rest → s.Inv →
      ∃ t, runSteps s.cfg.syncStages s = .next t ∧ t.script = rest ∧ rxWsync t = rxWptr s)

/-- O53 (R135, R227; entry 18). The write call, performed as a script with any tx_ready_i at each edge: its first line
reads the free space, exactly as many bytes as fit join the transmit queue, in order, and none of them is left without an
armed block. -/
def Obligations.WriteCallAcceptsWhatFits : Prop :=
  ∀ (p : List Byte) (rest : List Request) (s : State), s.Inv → s.willPerform (expandWrite p (txFree s)) rest →
    (∃ u, runSteps 1 s = .next u ∧ u.resp = some ⟨BitVec.ofNat 32 (txFree s), false⟩) ∧
    (∃ t, runSteps (expandWrite p (txFree s)).length s = .next t ∧ t.script = rest ∧
      t.txStream ++ txUnsent t = s.txStream ++ txUnsent s ++ p.take (writeResult p.length (txFree s)) ∧
      (0 < writeResult p.length (txFree s) → t.stTxack = true ∧ (t.txActive = true ∨ t.txIns = t.txExt))) ∧
    (txEmpty s = true →
      writeResult s.cfg.txMask (txFree s) = s.cfg.txMask ∧ writeResult s.cfg.txCap (txFree s) = s.cfg.txMask)
end

