-- ==== Sys2Proof/Laws/State.lean ====
section
/-! SUPPORT. One lemma per field per update of State, each true by rfl. -/

namespace Sys2Proof.Machine

section SyncShift
variable (pre post : State)
@[simp] theorem syncShift_cfg : (syncShift pre post).cfg = post.cfg := rfl
@[simp] theorem syncShift_rxmem : (syncShift pre post).rxmem = post.rxmem := rfl
@[simp] theorem syncShift_rxRemain : (syncShift pre post).rxRemain = post.rxRemain := rfl
@[simp] theorem syncShift_rxWgray : (syncShift pre post).rxWgray = post.rxWgray := rfl
@[simp] theorem syncShift_rxenSync : (syncShift pre post).rxenSync = post.rxenSync := rfl
@[simp] theorem syncShift_ctrlRxen : (syncShift pre post).ctrlRxen = post.ctrlRxen := rfl
@[simp] theorem syncShift_ctrlTcie : (syncShift pre post).ctrlTcie = post.ctrlTcie := rfl
@[simp] theorem syncShift_rxSync : (syncShift pre post).rxSync = shiftIn pre.rxWgray pre.rxSync := rfl
@[simp] theorem syncShift_rxRptr : (syncShift pre post).rxRptr = post.rxRptr := rfl
@[simp] theorem syncShift_txmem : (syncShift pre post).txmem = post.txmem := rfl
@[simp] theorem syncShift_txIns : (syncShift pre post).txIns = post.txIns := rfl
@[simp] theorem syncShift_txExt : (syncShift pre post).txExt = post.txExt := rfl
@[simp] theorem syncShift_txActive : (syncShift pre post).txActive = post.txActive := rfl
@[simp] theorem syncShift_txStart : (syncShift pre post).txStart = post.txStart := rfl
@[simp] theorem syncShift_txLen : (syncShift pre post).txLen = post.txLen := rfl
@[simp] theorem syncShift_txPtr : (syncShift pre post).txPtr = post.txPtr := rfl
@[simp] theorem syncShift_txRem : (syncShift pre post).txRem = post.txRem := rfl
@[simp] theorem syncShift_stTc : (syncShift pre post).stTc = post.stTc := rfl
@[simp] theorem syncShift_stTxack : (syncShift pre post).stTxack = post.stTxack := rfl
@[simp] theorem syncShift_cplPulse : (syncShift pre post).cplPulse = post.cplPulse := rfl
@[simp] theorem syncShift_wTotal : (syncShift pre post).wTotal = post.wTotal := rfl
@[simp] theorem syncShift_rTotal : (syncShift pre post).rTotal = post.rTotal := rfl
@[simp] theorem syncShift_busErrors : (syncShift pre post).busErrors = post.busErrors := rfl
@[simp] theorem syncShift_txReadyI : (syncShift pre post).txReadyI = post.txReadyI := rfl
@[simp] theorem syncShift_resp : (syncShift pre post).resp = post.resp := rfl
@[simp] theorem syncShift_txStream : (syncShift pre post).txStream = post.txStream := rfl
@[simp] theorem syncShift_draws : (syncShift pre post).draws = post.draws := rfl
@[simp] theorem syncShift_resets : (syncShift pre post).resets = post.resets := rfl
@[simp] theorem syncShift_script : (syncShift pre post).script = post.script := rfl
end SyncShift

section ClearPulse
variable (post : State)
@[simp] theorem clearPulse_cfg : (clearPulse post).cfg = post.cfg := rfl
@[simp] theorem clearPulse_rxmem : (clearPulse post).rxmem = post.rxmem := rfl
@[simp] theorem clearPulse_rxRemain : (clearPulse post).rxRemain = post.rxRemain := rfl
@[simp] theorem clearPulse_rxWgray : (clearPulse post).rxWgray = post.rxWgray := rfl
@[simp] theorem clearPulse_rxenSync : (clearPulse post).rxenSync = post.rxenSync := rfl
@[simp] theorem clearPulse_ctrlRxen : (clearPulse post).ctrlRxen = post.ctrlRxen := rfl
@[simp] theorem clearPulse_ctrlTcie : (clearPulse post).ctrlTcie = post.ctrlTcie := rfl
@[simp] theorem clearPulse_rxSync : (clearPulse post).rxSync = post.rxSync := rfl
@[simp] theorem clearPulse_rxRptr : (clearPulse post).rxRptr = post.rxRptr := rfl
@[simp] theorem clearPulse_txmem : (clearPulse post).txmem = post.txmem := rfl
@[simp] theorem clearPulse_txIns : (clearPulse post).txIns = post.txIns := rfl
@[simp] theorem clearPulse_txExt : (clearPulse post).txExt = post.txExt := rfl
@[simp] theorem clearPulse_txActive : (clearPulse post).txActive = post.txActive := rfl
@[simp] theorem clearPulse_txStart : (clearPulse post).txStart = post.txStart := rfl
@[simp] theorem clearPulse_txLen : (clearPulse post).txLen = post.txLen := rfl
@[simp] theorem clearPulse_txPtr : (clearPulse post).txPtr = post.txPtr := rfl
@[simp] theorem clearPulse_txRem : (clearPulse post).txRem = post.txRem := rfl
@[simp] theorem clearPulse_stTc : (clearPulse post).stTc = post.stTc := rfl
@[simp] theorem clearPulse_stTxack : (clearPulse post).stTxack = post.stTxack := rfl
@[simp] theorem clearPulse_cplPulse : (clearPulse post).cplPulse = false := rfl
@[simp] theorem clearPulse_wTotal : (clearPulse post).wTotal = post.wTotal := rfl
@[simp] theorem clearPulse_rTotal : (clearPulse post).rTotal = post.rTotal := rfl
@[simp] theorem clearPulse_busErrors : (clearPulse post).busErrors = post.busErrors := rfl
@[simp] theorem clearPulse_txReadyI : (clearPulse post).txReadyI = post.txReadyI := rfl
@[simp] theorem clearPulse_resp : (clearPulse post).resp = post.resp := rfl
@[simp] theorem clearPulse_txStream : (clearPulse post).txStream = post.txStream := rfl
@[simp] theorem clearPulse_draws : (clearPulse post).draws = post.draws := rfl
@[simp] theorem clearPulse_resets : (clearPulse post).resets = post.resets := rfl
@[simp] theorem clearPulse_script : (clearPulse post).script = post.script := rfl
end ClearPulse

section ArmBlock
variable (e i : Nat) (post : State)
@[simp] theorem armBlock_cfg : (armBlock e i post).cfg = post.cfg := rfl
@[simp] theorem armBlock_rxmem : (armBlock e i post).rxmem = post.rxmem := rfl
@[simp] theorem armBlock_rxRemain : (armBlock e i post).rxRemain = post.rxRemain := rfl
@[simp] theorem armBlock_rxWgray : (armBlock e i post).rxWgray = post.rxWgray := rfl
@[simp] theorem armBlock_rxenSync : (armBlock e i post).rxenSync = post.rxenSync := rfl
@[simp] theorem armBlock_ctrlRxen : (armBlock e i post).ctrlRxen = post.ctrlRxen := rfl
@[simp] theorem armBlock_ctrlTcie : (armBlock e i post).ctrlTcie = post.ctrlTcie := rfl
@[simp] theorem armBlock_rxSync : (armBlock e i post).rxSync = post.rxSync := rfl
@[simp] theorem armBlock_rxRptr : (armBlock e i post).rxRptr = post.rxRptr := rfl
@[simp] theorem armBlock_txmem : (armBlock e i post).txmem = post.txmem := rfl
@[simp] theorem armBlock_txIns : (armBlock e i post).txIns = post.txIns := rfl
@[simp] theorem armBlock_txExt : (armBlock e i post).txExt = post.txExt := rfl
@[simp] theorem armBlock_txActive : (armBlock e i post).txActive = true := rfl
@[simp] theorem armBlock_txStart : (armBlock e i post).txStart = e := rfl
@[simp] theorem armBlock_txLen : (armBlock e i post).txLen = runLength post.cfg.txCap e i := rfl
@[simp] theorem armBlock_txPtr : (armBlock e i post).txPtr = e := rfl
@[simp] theorem armBlock_txRem : (armBlock e i post).txRem = runLength post.cfg.txCap e i := rfl
@[simp] theorem armBlock_stTc : (armBlock e i post).stTc = post.stTc := rfl
@[simp] theorem armBlock_stTxack : (armBlock e i post).stTxack = post.stTxack := rfl
@[simp] theorem armBlock_cplPulse : (armBlock e i post).cplPulse = post.cplPulse := rfl
@[simp] theorem armBlock_wTotal : (armBlock e i post).wTotal = post.wTotal := rfl
@[simp] theorem armBlock_rTotal : (armBlock e i post).rTotal = post.rTotal := rfl
@[simp] theorem armBlock_busErrors : (armBlock e i post).busErrors = post.busErrors := rfl
@[simp] theorem armBlock_txReadyI : (armBlock e i post).txReadyI = post.txReadyI := rfl
@[simp] theorem armBlock_resp : (armBlock e i post).resp = post.resp := rfl
@[simp] theorem armBlock_txStream : (armBlock e i post).txStream = post.txStream := rfl
@[simp] theorem armBlock_draws : (armBlock e i post).draws = post.draws := rfl
@[simp] theorem armBlock_resets : (armBlock e i post).resets = post.resets := rfl
@[simp] theorem armBlock_script : (armBlock e i post).script = post.script := rfl
end ArmBlock

section Handshake
variable (pre post : State)
@[simp] theorem handshake_cfg : (handshake pre post).cfg = post.cfg := rfl
@[simp] theorem handshake_rxmem : (handshake pre post).rxmem = post.rxmem := rfl
@[simp] theorem handshake_rxRemain : (handshake pre post).rxRemain = post.rxRemain := rfl
@[simp] theorem handshake_rxWgray : (handshake pre post).rxWgray = post.rxWgray := rfl
@[simp] theorem handshake_rxenSync : (handshake pre post).rxenSync = post.rxenSync := rfl
@[simp] theorem handshake_ctrlRxen : (handshake pre post).ctrlRxen = post.ctrlRxen := rfl
@[simp] theorem handshake_ctrlTcie : (handshake pre post).ctrlTcie = post.ctrlTcie := rfl
@[simp] theorem handshake_rxSync : (handshake pre post).rxSync = post.rxSync := rfl
@[simp] theorem handshake_rxRptr : (handshake pre post).rxRptr = post.rxRptr := rfl
@[simp] theorem handshake_txmem : (handshake pre post).txmem = post.txmem := rfl
@[simp] theorem handshake_txIns : (handshake pre post).txIns = post.txIns := rfl
@[simp] theorem handshake_txExt : (handshake pre post).txExt = post.txExt := rfl
@[simp] theorem handshake_txActive : (handshake pre post).txActive = post.txActive := rfl
@[simp] theorem handshake_txStart : (handshake pre post).txStart = post.txStart := rfl
@[simp] theorem handshake_txLen : (handshake pre post).txLen = post.txLen := rfl
@[simp] theorem handshake_txPtr : (handshake pre post).txPtr = pre.txPtr + 1 := rfl
@[simp] theorem handshake_txRem : (handshake pre post).txRem = pre.txRem - 1 := rfl
@[simp] theorem handshake_stTc : (handshake pre post).stTc = post.stTc := rfl
@[simp] theorem handshake_stTxack : (handshake pre post).stTxack = post.stTxack := rfl
@[simp] theorem handshake_cplPulse : (handshake pre post).cplPulse = post.cplPulse := rfl
@[simp] theorem handshake_wTotal : (handshake pre post).wTotal = post.wTotal := rfl
@[simp] theorem handshake_rTotal : (handshake pre post).rTotal = post.rTotal := rfl
@[simp] theorem handshake_busErrors : (handshake pre post).busErrors = post.busErrors := rfl
@[simp] theorem handshake_txReadyI : (handshake pre post).txReadyI = post.txReadyI := rfl
@[simp] theorem handshake_resp : (handshake pre post).resp = post.resp := rfl
@[simp] theorem handshake_txStream : (handshake pre post).txStream = pre.txStream ++ [txByte pre pre.txPtr] := rfl
@[simp] theorem handshake_draws : (handshake pre post).draws = post.draws := rfl
@[simp] theorem handshake_resets : (handshake pre post).resets = post.resets := rfl
@[simp] theorem handshake_script : (handshake pre post).script = post.script := rfl
end Handshake

section ReportCompletion
variable (pre post : State)
@[simp] theorem reportCompletion_cfg : (reportCompletion pre post).cfg = post.cfg := rfl
@[simp] theorem reportCompletion_rxmem : (reportCompletion pre post).rxmem = post.rxmem := rfl
@[simp] theorem reportCompletion_rxRemain : (reportCompletion pre post).rxRemain = post.rxRemain := rfl
@[simp] theorem reportCompletion_rxWgray : (reportCompletion pre post).rxWgray = post.rxWgray := rfl
@[simp] theorem reportCompletion_rxenSync : (reportCompletion pre post).rxenSync = post.rxenSync := rfl
@[simp] theorem reportCompletion_ctrlRxen : (reportCompletion pre post).ctrlRxen = post.ctrlRxen := rfl
@[simp] theorem reportCompletion_ctrlTcie : (reportCompletion pre post).ctrlTcie = post.ctrlTcie := rfl
@[simp] theorem reportCompletion_rxSync : (reportCompletion pre post).rxSync = post.rxSync := rfl
@[simp] theorem reportCompletion_rxRptr : (reportCompletion pre post).rxRptr = post.rxRptr := rfl
@[simp] theorem reportCompletion_txmem : (reportCompletion pre post).txmem = post.txmem := rfl
@[simp] theorem reportCompletion_txIns : (reportCompletion pre post).txIns = post.txIns := rfl
@[simp] theorem reportCompletion_txExt : (reportCompletion pre post).txExt = completedOffset pre := rfl
@[simp] theorem reportCompletion_txActive : (reportCompletion pre post).txActive = post.txActive := rfl
@[simp] theorem reportCompletion_txStart : (reportCompletion pre post).txStart = post.txStart := rfl
@[simp] theorem reportCompletion_txLen : (reportCompletion pre post).txLen = post.txLen := rfl
@[simp] theorem reportCompletion_txPtr : (reportCompletion pre post).txPtr = post.txPtr := rfl
@[simp] theorem reportCompletion_txRem : (reportCompletion pre post).txRem = post.txRem := rfl
@[simp] theorem reportCompletion_stTc : (reportCompletion pre post).stTc = true := rfl
@[simp] theorem reportCompletion_stTxack : (reportCompletion pre post).stTxack = post.stTxack := rfl
@[simp] theorem reportCompletion_cplPulse : (reportCompletion pre post).cplPulse = true := rfl
@[simp] theorem reportCompletion_wTotal : (reportCompletion pre post).wTotal = post.wTotal := rfl
@[simp] theorem reportCompletion_rTotal : (reportCompletion pre post).rTotal = post.rTotal := rfl
@[simp] theorem reportCompletion_busErrors : (reportCompletion pre post).busErrors = post.busErrors := rfl
@[simp] theorem reportCompletion_txReadyI : (reportCompletion pre post).txReadyI = post.txReadyI := rfl
@[simp] theorem reportCompletion_resp : (reportCompletion pre post).resp = post.resp := rfl
@[simp] theorem reportCompletion_txStream : (reportCompletion pre post).txStream = post.txStream := rfl
@[simp] theorem reportCompletion_draws : (reportCompletion pre post).draws = post.draws := rfl
@[simp] theorem reportCompletion_resets : (reportCompletion pre post).resets = post.resets := rfl
@[simp] theorem reportCompletion_script : (reportCompletion pre post).script = post.script := rfl
end ReportCompletion

section GoIdle
variable (post : State)
@[simp] theorem goIdle_cfg : (goIdle post).cfg = post.cfg := rfl
@[simp] theorem goIdle_rxmem : (goIdle post).rxmem = post.rxmem := rfl
@[simp] theorem goIdle_rxRemain : (goIdle post).rxRemain = post.rxRemain := rfl
@[simp] theorem goIdle_rxWgray : (goIdle post).rxWgray = post.rxWgray := rfl
@[simp] theorem goIdle_rxenSync : (goIdle post).rxenSync = post.rxenSync := rfl
@[simp] theorem goIdle_ctrlRxen : (goIdle post).ctrlRxen = post.ctrlRxen := rfl
@[simp] theorem goIdle_ctrlTcie : (goIdle post).ctrlTcie = post.ctrlTcie := rfl
@[simp] theorem goIdle_rxSync : (goIdle post).rxSync = post.rxSync := rfl
@[simp] theorem goIdle_rxRptr : (goIdle post).rxRptr = post.rxRptr := rfl
@[simp] theorem goIdle_txmem : (goIdle post).txmem = post.txmem := rfl
@[simp] theorem goIdle_txIns : (goIdle post).txIns = post.txIns := rfl
@[simp] theorem goIdle_txExt : (goIdle post).txExt = post.txExt := rfl
@[simp] theorem goIdle_txActive : (goIdle post).txActive = false := rfl
@[simp] theorem goIdle_txStart : (goIdle post).txStart = post.txStart := rfl
@[simp] theorem goIdle_txLen : (goIdle post).txLen = post.txLen := rfl
@[simp] theorem goIdle_txPtr : (goIdle post).txPtr = post.txPtr := rfl
@[simp] theorem goIdle_txRem : (goIdle post).txRem = post.txRem := rfl
@[simp] theorem goIdle_stTc : (goIdle post).stTc = post.stTc := rfl
@[simp] theorem goIdle_stTxack : (goIdle post).stTxack = post.stTxack := rfl
@[simp] theorem goIdle_cplPulse : (goIdle post).cplPulse = post.cplPulse := rfl
@[simp] theorem goIdle_wTotal : (goIdle post).wTotal = post.wTotal := rfl
@[simp] theorem goIdle_rTotal : (goIdle post).rTotal = post.rTotal := rfl
@[simp] theorem goIdle_busErrors : (goIdle post).busErrors = post.busErrors := rfl
@[simp] theorem goIdle_txReadyI : (goIdle post).txReadyI = post.txReadyI := rfl
@[simp] theorem goIdle_resp : (goIdle post).resp = post.resp := rfl
@[simp] theorem goIdle_txStream : (goIdle post).txStream = post.txStream := rfl
@[simp] theorem goIdle_draws : (goIdle post).draws = post.draws := rfl
@[simp] theorem goIdle_resets : (goIdle post).resets = post.resets := rfl
@[simp] theorem goIdle_script : (goIdle post).script = post.script := rfl
end GoIdle

section Respond
variable (v : Word) (e : Bool) (post : State)
@[simp] theorem respond_cfg : (respond v e post).cfg = post.cfg := rfl
@[simp] theorem respond_rxmem : (respond v e post).rxmem = post.rxmem := rfl
@[simp] theorem respond_rxRemain : (respond v e post).rxRemain = post.rxRemain := rfl
@[simp] theorem respond_rxWgray : (respond v e post).rxWgray = post.rxWgray := rfl
@[simp] theorem respond_rxenSync : (respond v e post).rxenSync = post.rxenSync := rfl
@[simp] theorem respond_ctrlRxen : (respond v e post).ctrlRxen = post.ctrlRxen := rfl
@[simp] theorem respond_ctrlTcie : (respond v e post).ctrlTcie = post.ctrlTcie := rfl
@[simp] theorem respond_rxSync : (respond v e post).rxSync = post.rxSync := rfl
@[simp] theorem respond_rxRptr : (respond v e post).rxRptr = post.rxRptr := rfl
@[simp] theorem respond_txmem : (respond v e post).txmem = post.txmem := rfl
@[simp] theorem respond_txIns : (respond v e post).txIns = post.txIns := rfl
@[simp] theorem respond_txExt : (respond v e post).txExt = post.txExt := rfl
@[simp] theorem respond_txActive : (respond v e post).txActive = post.txActive := rfl
@[simp] theorem respond_txStart : (respond v e post).txStart = post.txStart := rfl
@[simp] theorem respond_txLen : (respond v e post).txLen = post.txLen := rfl
@[simp] theorem respond_txPtr : (respond v e post).txPtr = post.txPtr := rfl
@[simp] theorem respond_txRem : (respond v e post).txRem = post.txRem := rfl
@[simp] theorem respond_stTc : (respond v e post).stTc = post.stTc := rfl
@[simp] theorem respond_stTxack : (respond v e post).stTxack = post.stTxack := rfl
@[simp] theorem respond_cplPulse : (respond v e post).cplPulse = post.cplPulse := rfl
@[simp] theorem respond_wTotal : (respond v e post).wTotal = post.wTotal := rfl
@[simp] theorem respond_rTotal : (respond v e post).rTotal = post.rTotal := rfl
@[simp] theorem respond_busErrors : (respond v e post).busErrors = post.busErrors := rfl
@[simp] theorem respond_txReadyI : (respond v e post).txReadyI = post.txReadyI := rfl
@[simp] theorem respond_resp : (respond v e post).resp = some ⟨v, e⟩ := rfl
@[simp] theorem respond_txStream : (respond v e post).txStream = post.txStream := rfl
@[simp] theorem respond_draws : (respond v e post).draws = post.draws := rfl
@[simp] theorem respond_resets : (respond v e post).resets = post.resets := rfl
@[simp] theorem respond_script : (respond v e post).script = post.script := rfl
end Respond

section NoResponse
variable (post : State)
@[simp] theorem noResponse_cfg : (noResponse post).cfg = post.cfg := rfl
@[simp] theorem noResponse_rxmem : (noResponse post).rxmem = post.rxmem := rfl
@[simp] theorem noResponse_rxRemain : (noResponse post).rxRemain = post.rxRemain := rfl
@[simp] theorem noResponse_rxWgray : (noResponse post).rxWgray = post.rxWgray := rfl
@[simp] theorem noResponse_rxenSync : (noResponse post).rxenSync = post.rxenSync := rfl
@[simp] theorem noResponse_ctrlRxen : (noResponse post).ctrlRxen = post.ctrlRxen := rfl
@[simp] theorem noResponse_ctrlTcie : (noResponse post).ctrlTcie = post.ctrlTcie := rfl
@[simp] theorem noResponse_rxSync : (noResponse post).rxSync = post.rxSync := rfl
@[simp] theorem noResponse_rxRptr : (noResponse post).rxRptr = post.rxRptr := rfl
@[simp] theorem noResponse_txmem : (noResponse post).txmem = post.txmem := rfl
@[simp] theorem noResponse_txIns : (noResponse post).txIns = post.txIns := rfl
@[simp] theorem noResponse_txExt : (noResponse post).txExt = post.txExt := rfl
@[simp] theorem noResponse_txActive : (noResponse post).txActive = post.txActive := rfl
@[simp] theorem noResponse_txStart : (noResponse post).txStart = post.txStart := rfl
@[simp] theorem noResponse_txLen : (noResponse post).txLen = post.txLen := rfl
@[simp] theorem noResponse_txPtr : (noResponse post).txPtr = post.txPtr := rfl
@[simp] theorem noResponse_txRem : (noResponse post).txRem = post.txRem := rfl
@[simp] theorem noResponse_stTc : (noResponse post).stTc = post.stTc := rfl
@[simp] theorem noResponse_stTxack : (noResponse post).stTxack = post.stTxack := rfl
@[simp] theorem noResponse_cplPulse : (noResponse post).cplPulse = post.cplPulse := rfl
@[simp] theorem noResponse_wTotal : (noResponse post).wTotal = post.wTotal := rfl
@[simp] theorem noResponse_rTotal : (noResponse post).rTotal = post.rTotal := rfl
@[simp] theorem noResponse_busErrors : (noResponse post).busErrors = post.busErrors := rfl
@[simp] theorem noResponse_txReadyI : (noResponse post).txReadyI = post.txReadyI := rfl
@[simp] theorem noResponse_resp : (noResponse post).resp = none := rfl
@[simp] theorem noResponse_txStream : (noResponse post).txStream = post.txStream := rfl
@[simp] theorem noResponse_draws : (noResponse post).draws = post.draws := rfl
@[simp] theorem noResponse_resets : (noResponse post).resets = post.resets := rfl
@[simp] theorem noResponse_script : (noResponse post).script = post.script := rfl
end NoResponse

section RecordBusError
variable (c : BusErrorCause) (d : Desc) (post : State)
@[simp] theorem recordBusError_cfg : (recordBusError c d post).cfg = post.cfg := rfl
@[simp] theorem recordBusError_rxmem : (recordBusError c d post).rxmem = post.rxmem := rfl
@[simp] theorem recordBusError_rxRemain : (recordBusError c d post).rxRemain = post.rxRemain := rfl
@[simp] theorem recordBusError_rxWgray : (recordBusError c d post).rxWgray = post.rxWgray := rfl
@[simp] theorem recordBusError_rxenSync : (recordBusError c d post).rxenSync = post.rxenSync := rfl
@[simp] theorem recordBusError_ctrlRxen : (recordBusError c d post).ctrlRxen = post.ctrlRxen := rfl
@[simp] theorem recordBusError_ctrlTcie : (recordBusError c d post).ctrlTcie = post.ctrlTcie := rfl
@[simp] theorem recordBusError_rxSync : (recordBusError c d post).rxSync = post.rxSync := rfl
@[simp] theorem recordBusError_rxRptr : (recordBusError c d post).rxRptr = post.rxRptr := rfl
@[simp] theorem recordBusError_txmem : (recordBusError c d post).txmem = post.txmem := rfl
@[simp] theorem recordBusError_txIns : (recordBusError c d post).txIns = post.txIns := rfl
@[simp] theorem recordBusError_txExt : (recordBusError c d post).txExt = post.txExt := rfl
@[simp] theorem recordBusError_txActive : (recordBusError c d post).txActive = post.txActive := rfl
@[simp] theorem recordBusError_txStart : (recordBusError c d post).txStart = post.txStart := rfl
@[simp] theorem recordBusError_txLen : (recordBusError c d post).txLen = post.txLen := rfl
@[simp] theorem recordBusError_txPtr : (recordBusError c d post).txPtr = post.txPtr := rfl
@[simp] theorem recordBusError_txRem : (recordBusError c d post).txRem = post.txRem := rfl
@[simp] theorem recordBusError_stTc : (recordBusError c d post).stTc = post.stTc := rfl
@[simp] theorem recordBusError_stTxack : (recordBusError c d post).stTxack = post.stTxack := rfl
@[simp] theorem recordBusError_cplPulse : (recordBusError c d post).cplPulse = post.cplPulse := rfl
@[simp] theorem recordBusError_wTotal : (recordBusError c d post).wTotal = post.wTotal := rfl
@[simp] theorem recordBusError_rTotal : (recordBusError c d post).rTotal = post.rTotal := rfl
@[simp] theorem recordBusError_busErrors : (recordBusError c d post).busErrors = post.busErrors ++ [⟨c, d⟩] := rfl
@[simp] theorem recordBusError_txReadyI : (recordBusError c d post).txReadyI = post.txReadyI := rfl
@[simp] theorem recordBusError_resp : (recordBusError c d post).resp = post.resp := rfl
@[simp] theorem recordBusError_txStream : (recordBusError c d post).txStream = post.txStream := rfl
@[simp] theorem recordBusError_draws : (recordBusError c d post).draws = post.draws := rfl
@[simp] theorem recordBusError_resets : (recordBusError c d post).resets = post.resets := rfl
@[simp] theorem recordBusError_script : (recordBusError c d post).script = post.script := rfl
end RecordBusError

section WriteCtrl
variable (v : Word) (post : State)
@[simp] theorem writeCtrl_cfg : (writeCtrl v post).cfg = post.cfg := rfl
@[simp] theorem writeCtrl_rxmem : (writeCtrl v post).rxmem = post.rxmem := rfl
@[simp] theorem writeCtrl_rxRemain : (writeCtrl v post).rxRemain = post.rxRemain := rfl
@[simp] theorem writeCtrl_rxWgray : (writeCtrl v post).rxWgray = post.rxWgray := rfl
@[simp] theorem writeCtrl_rxenSync : (writeCtrl v post).rxenSync = post.rxenSync := rfl
@[simp] theorem writeCtrl_ctrlRxen : (writeCtrl v post).ctrlRxen = ctrlRxenBit v := rfl
@[simp] theorem writeCtrl_ctrlTcie : (writeCtrl v post).ctrlTcie = ctrlTcieBit v := rfl
@[simp] theorem writeCtrl_rxSync : (writeCtrl v post).rxSync = post.rxSync := rfl
@[simp] theorem writeCtrl_rxRptr : (writeCtrl v post).rxRptr = post.rxRptr := rfl
@[simp] theorem writeCtrl_txmem : (writeCtrl v post).txmem = post.txmem := rfl
@[simp] theorem writeCtrl_txIns : (writeCtrl v post).txIns = post.txIns := rfl
@[simp] theorem writeCtrl_txExt : (writeCtrl v post).txExt = post.txExt := rfl
@[simp] theorem writeCtrl_txActive : (writeCtrl v post).txActive = post.txActive := rfl
@[simp] theorem writeCtrl_txStart : (writeCtrl v post).txStart = post.txStart := rfl
@[simp] theorem writeCtrl_txLen : (writeCtrl v post).txLen = post.txLen := rfl
@[simp] theorem writeCtrl_txPtr : (writeCtrl v post).txPtr = post.txPtr := rfl
@[simp] theorem writeCtrl_txRem : (writeCtrl v post).txRem = post.txRem := rfl
@[simp] theorem writeCtrl_stTc : (writeCtrl v post).stTc = post.stTc := rfl
@[simp] theorem writeCtrl_stTxack : (writeCtrl v post).stTxack = post.stTxack := rfl
@[simp] theorem writeCtrl_cplPulse : (writeCtrl v post).cplPulse = post.cplPulse := rfl
@[simp] theorem writeCtrl_wTotal : (writeCtrl v post).wTotal = post.wTotal := rfl
@[simp] theorem writeCtrl_rTotal : (writeCtrl v post).rTotal = post.rTotal := rfl
@[simp] theorem writeCtrl_busErrors : (writeCtrl v post).busErrors = post.busErrors := rfl
@[simp] theorem writeCtrl_txReadyI : (writeCtrl v post).txReadyI = post.txReadyI := rfl
@[simp] theorem writeCtrl_resp : (writeCtrl v post).resp = post.resp := rfl
@[simp] theorem writeCtrl_txStream : (writeCtrl v post).txStream = post.txStream := rfl
@[simp] theorem writeCtrl_draws : (writeCtrl v post).draws = post.draws := rfl
@[simp] theorem writeCtrl_resets : (writeCtrl v post).resets = post.resets := rfl
@[simp] theorem writeCtrl_script : (writeCtrl v post).script = post.script := rfl
end WriteCtrl

section ClearTc
variable (post : State)
@[simp] theorem clearTc_cfg : (clearTc post).cfg = post.cfg := rfl
@[simp] theorem clearTc_rxmem : (clearTc post).rxmem = post.rxmem := rfl
@[simp] theorem clearTc_rxRemain : (clearTc post).rxRemain = post.rxRemain := rfl
@[simp] theorem clearTc_rxWgray : (clearTc post).rxWgray = post.rxWgray := rfl
@[simp] theorem clearTc_rxenSync : (clearTc post).rxenSync = post.rxenSync := rfl
@[simp] theorem clearTc_ctrlRxen : (clearTc post).ctrlRxen = post.ctrlRxen := rfl
@[simp] theorem clearTc_ctrlTcie : (clearTc post).ctrlTcie = post.ctrlTcie := rfl
@[simp] theorem clearTc_rxSync : (clearTc post).rxSync = post.rxSync := rfl
@[simp] theorem clearTc_rxRptr : (clearTc post).rxRptr = post.rxRptr := rfl
@[simp] theorem clearTc_txmem : (clearTc post).txmem = post.txmem := rfl
@[simp] theorem clearTc_txIns : (clearTc post).txIns = post.txIns := rfl
@[simp] theorem clearTc_txExt : (clearTc post).txExt = post.txExt := rfl
@[simp] theorem clearTc_txActive : (clearTc post).txActive = post.txActive := rfl
@[simp] theorem clearTc_txStart : (clearTc post).txStart = post.txStart := rfl
@[simp] theorem clearTc_txLen : (clearTc post).txLen = post.txLen := rfl
@[simp] theorem clearTc_txPtr : (clearTc post).txPtr = post.txPtr := rfl
@[simp] theorem clearTc_txRem : (clearTc post).txRem = post.txRem := rfl
@[simp] theorem clearTc_stTc : (clearTc post).stTc = false := rfl
@[simp] theorem clearTc_stTxack : (clearTc post).stTxack = post.stTxack := rfl
@[simp] theorem clearTc_cplPulse : (clearTc post).cplPulse = post.cplPulse := rfl
@[simp] theorem clearTc_wTotal : (clearTc post).wTotal = post.wTotal := rfl
@[simp] theorem clearTc_rTotal : (clearTc post).rTotal = post.rTotal := rfl
@[simp] theorem clearTc_busErrors : (clearTc post).busErrors = post.busErrors := rfl
@[simp] theorem clearTc_txReadyI : (clearTc post).txReadyI = post.txReadyI := rfl
@[simp] theorem clearTc_resp : (clearTc post).resp = post.resp := rfl
@[simp] theorem clearTc_txStream : (clearTc post).txStream = post.txStream := rfl
@[simp] theorem clearTc_draws : (clearTc post).draws = post.draws := rfl
@[simp] theorem clearTc_resets : (clearTc post).resets = post.resets := rfl
@[simp] theorem clearTc_script : (clearTc post).script = post.script := rfl
end ClearTc

section AdvanceRptr
variable (pre post : State)
@[simp] theorem advanceRptr_cfg : (advanceRptr pre post).cfg = post.cfg := rfl
@[simp] theorem advanceRptr_rxmem : (advanceRptr pre post).rxmem = post.rxmem := rfl
@[simp] theorem advanceRptr_rxRemain : (advanceRptr pre post).rxRemain = post.rxRemain := rfl
@[simp] theorem advanceRptr_rxWgray : (advanceRptr pre post).rxWgray = post.rxWgray := rfl
@[simp] theorem advanceRptr_rxenSync : (advanceRptr pre post).rxenSync = post.rxenSync := rfl
@[simp] theorem advanceRptr_ctrlRxen : (advanceRptr pre post).ctrlRxen = post.ctrlRxen := rfl
@[simp] theorem advanceRptr_ctrlTcie : (advanceRptr pre post).ctrlTcie = post.ctrlTcie := rfl
@[simp] theorem advanceRptr_rxSync : (advanceRptr pre post).rxSync = post.rxSync := rfl
@[simp] theorem advanceRptr_rxRptr : (advanceRptr pre post).rxRptr = wrap pre.cfg.rxCap (pre.rxRptr + 1) := rfl
@[simp] theorem advanceRptr_txmem : (advanceRptr pre post).txmem = post.txmem := rfl
@[simp] theorem advanceRptr_txIns : (advanceRptr pre post).txIns = post.txIns := rfl
@[simp] theorem advanceRptr_txExt : (advanceRptr pre post).txExt = post.txExt := rfl
@[simp] theorem advanceRptr_txActive : (advanceRptr pre post).txActive = post.txActive := rfl
@[simp] theorem advanceRptr_txStart : (advanceRptr pre post).txStart = post.txStart := rfl
@[simp] theorem advanceRptr_txLen : (advanceRptr pre post).txLen = post.txLen := rfl
@[simp] theorem advanceRptr_txPtr : (advanceRptr pre post).txPtr = post.txPtr := rfl
@[simp] theorem advanceRptr_txRem : (advanceRptr pre post).txRem = post.txRem := rfl
@[simp] theorem advanceRptr_stTc : (advanceRptr pre post).stTc = post.stTc := rfl
@[simp] theorem advanceRptr_stTxack : (advanceRptr pre post).stTxack = post.stTxack := rfl
@[simp] theorem advanceRptr_cplPulse : (advanceRptr pre post).cplPulse = post.cplPulse := rfl
@[simp] theorem advanceRptr_wTotal : (advanceRptr pre post).wTotal = post.wTotal := rfl
@[simp] theorem advanceRptr_rTotal : (advanceRptr pre post).rTotal = pre.rTotal + 1 := rfl
@[simp] theorem advanceRptr_busErrors : (advanceRptr pre post).busErrors = post.busErrors := rfl
@[simp] theorem advanceRptr_txReadyI : (advanceRptr pre post).txReadyI = post.txReadyI := rfl
@[simp] theorem advanceRptr_resp : (advanceRptr pre post).resp = post.resp := rfl
@[simp] theorem advanceRptr_txStream : (advanceRptr pre post).txStream = post.txStream := rfl
@[simp] theorem advanceRptr_draws : (advanceRptr pre post).draws = post.draws := rfl
@[simp] theorem advanceRptr_resets : (advanceRptr pre post).resets = post.resets := rfl
@[simp] theorem advanceRptr_script : (advanceRptr pre post).script = post.script := rfl
end AdvanceRptr

section CountDraw
variable (pre post : State)
@[simp] theorem countDraw_cfg : (countDraw pre post).cfg = post.cfg := rfl
@[simp] theorem countDraw_rxmem : (countDraw pre post).rxmem = post.rxmem := rfl
@[simp] theorem countDraw_rxRemain : (countDraw pre post).rxRemain = post.rxRemain := rfl
@[simp] theorem countDraw_rxWgray : (countDraw pre post).rxWgray = post.rxWgray := rfl
@[simp] theorem countDraw_rxenSync : (countDraw pre post).rxenSync = post.rxenSync := rfl
@[simp] theorem countDraw_ctrlRxen : (countDraw pre post).ctrlRxen = post.ctrlRxen := rfl
@[simp] theorem countDraw_ctrlTcie : (countDraw pre post).ctrlTcie = post.ctrlTcie := rfl
@[simp] theorem countDraw_rxSync : (countDraw pre post).rxSync = post.rxSync := rfl
@[simp] theorem countDraw_rxRptr : (countDraw pre post).rxRptr = post.rxRptr := rfl
@[simp] theorem countDraw_txmem : (countDraw pre post).txmem = post.txmem := rfl
@[simp] theorem countDraw_txIns : (countDraw pre post).txIns = post.txIns := rfl
@[simp] theorem countDraw_txExt : (countDraw pre post).txExt = post.txExt := rfl
@[simp] theorem countDraw_txActive : (countDraw pre post).txActive = post.txActive := rfl
@[simp] theorem countDraw_txStart : (countDraw pre post).txStart = post.txStart := rfl
@[simp] theorem countDraw_txLen : (countDraw pre post).txLen = post.txLen := rfl
@[simp] theorem countDraw_txPtr : (countDraw pre post).txPtr = post.txPtr := rfl
@[simp] theorem countDraw_txRem : (countDraw pre post).txRem = post.txRem := rfl
@[simp] theorem countDraw_stTc : (countDraw pre post).stTc = post.stTc := rfl
@[simp] theorem countDraw_stTxack : (countDraw pre post).stTxack = post.stTxack := rfl
@[simp] theorem countDraw_cplPulse : (countDraw pre post).cplPulse = post.cplPulse := rfl
@[simp] theorem countDraw_wTotal : (countDraw pre post).wTotal = post.wTotal := rfl
@[simp] theorem countDraw_rTotal : (countDraw pre post).rTotal = post.rTotal := rfl
@[simp] theorem countDraw_busErrors : (countDraw pre post).busErrors = post.busErrors := rfl
@[simp] theorem countDraw_txReadyI : (countDraw pre post).txReadyI = post.txReadyI := rfl
@[simp] theorem countDraw_resp : (countDraw pre post).resp = post.resp := rfl
@[simp] theorem countDraw_txStream : (countDraw pre post).txStream = post.txStream := rfl
@[simp] theorem countDraw_draws : (countDraw pre post).draws = pre.draws + 1 := rfl
@[simp] theorem countDraw_resets : (countDraw pre post).resets = post.resets := rfl
@[simp] theorem countDraw_script : (countDraw pre post).script = post.script := rfl
end CountDraw

section AcceptByte
variable (b : Byte) (pre post : State)
@[simp] theorem acceptByte_cfg : (acceptByte b pre post).cfg = post.cfg := rfl
@[simp] theorem acceptByte_rxmem : (acceptByte b pre post).rxmem = post.rxmem := rfl
@[simp] theorem acceptByte_rxRemain : (acceptByte b pre post).rxRemain = post.rxRemain := rfl
@[simp] theorem acceptByte_rxWgray : (acceptByte b pre post).rxWgray = post.rxWgray := rfl
@[simp] theorem acceptByte_rxenSync : (acceptByte b pre post).rxenSync = post.rxenSync := rfl
@[simp] theorem acceptByte_ctrlRxen : (acceptByte b pre post).ctrlRxen = post.ctrlRxen := rfl
@[simp] theorem acceptByte_ctrlTcie : (acceptByte b pre post).ctrlTcie = post.ctrlTcie := rfl
@[simp] theorem acceptByte_rxSync : (acceptByte b pre post).rxSync = post.rxSync := rfl
@[simp] theorem acceptByte_rxRptr : (acceptByte b pre post).rxRptr = post.rxRptr := rfl
@[simp] theorem acceptByte_txmem : (acceptByte b pre post).txmem = Memory.write pre.txmem pre.txIns b := rfl
@[simp] theorem acceptByte_txIns : (acceptByte b pre post).txIns = wrap pre.cfg.txCap (pre.txIns + 1) := rfl
@[simp] theorem acceptByte_txExt : (acceptByte b pre post).txExt = post.txExt := rfl
@[simp] theorem acceptByte_txActive : (acceptByte b pre post).txActive = post.txActive := rfl
@[simp] theorem acceptByte_txStart : (acceptByte b pre post).txStart = post.txStart := rfl
@[simp] theorem acceptByte_txLen : (acceptByte b pre post).txLen = post.txLen := rfl
@[simp] theorem acceptByte_txPtr : (acceptByte b pre post).txPtr = post.txPtr := rfl
@[simp] theorem acceptByte_txRem : (acceptByte b pre post).txRem = post.txRem := rfl
@[simp] theorem acceptByte_stTc : (acceptByte b pre post).stTc = post.stTc := rfl
@[simp] theorem acceptByte_stTxack : (acceptByte b pre post).stTxack = true := rfl
@[simp] theorem acceptByte_cplPulse : (acceptByte b pre post).cplPulse = post.cplPulse := rfl
@[simp] theorem acceptByte_wTotal : (acceptByte b pre post).wTotal = post.wTotal := rfl
@[simp] theorem acceptByte_rTotal : (acceptByte b pre post).rTotal = post.rTotal := rfl
@[simp] theorem acceptByte_busErrors : (acceptByte b pre post).busErrors = post.busErrors := rfl
@[simp] theorem acceptByte_txReadyI : (acceptByte b pre post).txReadyI = post.txReadyI := rfl
@[simp] theorem acceptByte_resp : (acceptByte b pre post).resp = post.resp := rfl
@[simp] theorem acceptByte_txStream : (acceptByte b pre post).txStream = post.txStream := rfl
@[simp] theorem acceptByte_draws : (acceptByte b pre post).draws = post.draws := rfl
@[simp] theorem acceptByte_resets : (acceptByte b pre post).resets = post.resets := rfl
@[simp] theorem acceptByte_script : (acceptByte b pre post).script = post.script := rfl
end AcceptByte

section DropByte
variable (post : State)
@[simp] theorem dropByte_cfg : (dropByte post).cfg = post.cfg := rfl
@[simp] theorem dropByte_rxmem : (dropByte post).rxmem = post.rxmem := rfl
@[simp] theorem dropByte_rxRemain : (dropByte post).rxRemain = post.rxRemain := rfl
@[simp] theorem dropByte_rxWgray : (dropByte post).rxWgray = post.rxWgray := rfl
@[simp] theorem dropByte_rxenSync : (dropByte post).rxenSync = post.rxenSync := rfl
@[simp] theorem dropByte_ctrlRxen : (dropByte post).ctrlRxen = post.ctrlRxen := rfl
@[simp] theorem dropByte_ctrlTcie : (dropByte post).ctrlTcie = post.ctrlTcie := rfl
@[simp] theorem dropByte_rxSync : (dropByte post).rxSync = post.rxSync := rfl
@[simp] theorem dropByte_rxRptr : (dropByte post).rxRptr = post.rxRptr := rfl
@[simp] theorem dropByte_txmem : (dropByte post).txmem = post.txmem := rfl
@[simp] theorem dropByte_txIns : (dropByte post).txIns = post.txIns := rfl
@[simp] theorem dropByte_txExt : (dropByte post).txExt = post.txExt := rfl
@[simp] theorem dropByte_txActive : (dropByte post).txActive = post.txActive := rfl
@[simp] theorem dropByte_txStart : (dropByte post).txStart = post.txStart := rfl
@[simp] theorem dropByte_txLen : (dropByte post).txLen = post.txLen := rfl
@[simp] theorem dropByte_txPtr : (dropByte post).txPtr = post.txPtr := rfl
@[simp] theorem dropByte_txRem : (dropByte post).txRem = post.txRem := rfl
@[simp] theorem dropByte_stTc : (dropByte post).stTc = post.stTc := rfl
@[simp] theorem dropByte_stTxack : (dropByte post).stTxack = false := rfl
@[simp] theorem dropByte_cplPulse : (dropByte post).cplPulse = post.cplPulse := rfl
@[simp] theorem dropByte_wTotal : (dropByte post).wTotal = post.wTotal := rfl
@[simp] theorem dropByte_rTotal : (dropByte post).rTotal = post.rTotal := rfl
@[simp] theorem dropByte_busErrors : (dropByte post).busErrors = post.busErrors := rfl
@[simp] theorem dropByte_txReadyI : (dropByte post).txReadyI = post.txReadyI := rfl
@[simp] theorem dropByte_resp : (dropByte post).resp = post.resp := rfl
@[simp] theorem dropByte_txStream : (dropByte post).txStream = post.txStream := rfl
@[simp] theorem dropByte_draws : (dropByte post).draws = post.draws := rfl
@[simp] theorem dropByte_resets : (dropByte post).resets = post.resets := rfl
@[simp] theorem dropByte_script : (dropByte post).script = post.script := rfl
end DropByte

section ShiftEnable
variable (pre post : State)
@[simp] theorem shiftEnable_cfg : (shiftEnable pre post).cfg = post.cfg := rfl
@[simp] theorem shiftEnable_rxmem : (shiftEnable pre post).rxmem = post.rxmem := rfl
@[simp] theorem shiftEnable_rxRemain : (shiftEnable pre post).rxRemain = post.rxRemain := rfl
@[simp] theorem shiftEnable_rxWgray : (shiftEnable pre post).rxWgray = post.rxWgray := rfl
@[simp] theorem shiftEnable_rxenSync : (shiftEnable pre post).rxenSync = shiftIn pre.ctrlRxen pre.rxenSync := rfl
@[simp] theorem shiftEnable_ctrlRxen : (shiftEnable pre post).ctrlRxen = post.ctrlRxen := rfl
@[simp] theorem shiftEnable_ctrlTcie : (shiftEnable pre post).ctrlTcie = post.ctrlTcie := rfl
@[simp] theorem shiftEnable_rxSync : (shiftEnable pre post).rxSync = post.rxSync := rfl
@[simp] theorem shiftEnable_rxRptr : (shiftEnable pre post).rxRptr = post.rxRptr := rfl
@[simp] theorem shiftEnable_txmem : (shiftEnable pre post).txmem = post.txmem := rfl
@[simp] theorem shiftEnable_txIns : (shiftEnable pre post).txIns = post.txIns := rfl
@[simp] theorem shiftEnable_txExt : (shiftEnable pre post).txExt = post.txExt := rfl
@[simp] theorem shiftEnable_txActive : (shiftEnable pre post).txActive = post.txActive := rfl
@[simp] theorem shiftEnable_txStart : (shiftEnable pre post).txStart = post.txStart := rfl
@[simp] theorem shiftEnable_txLen : (shiftEnable pre post).txLen = post.txLen := rfl
@[simp] theorem shiftEnable_txPtr : (shiftEnable pre post).txPtr = post.txPtr := rfl
@[simp] theorem shiftEnable_txRem : (shiftEnable pre post).txRem = post.txRem := rfl
@[simp] theorem shiftEnable_stTc : (shiftEnable pre post).stTc = post.stTc := rfl
@[simp] theorem shiftEnable_stTxack : (shiftEnable pre post).stTxack = post.stTxack := rfl
@[simp] theorem shiftEnable_cplPulse : (shiftEnable pre post).cplPulse = post.cplPulse := rfl
@[simp] theorem shiftEnable_wTotal : (shiftEnable pre post).wTotal = post.wTotal := rfl
@[simp] theorem shiftEnable_rTotal : (shiftEnable pre post).rTotal = post.rTotal := rfl
@[simp] theorem shiftEnable_busErrors : (shiftEnable pre post).busErrors = post.busErrors := rfl
@[simp] theorem shiftEnable_txReadyI : (shiftEnable pre post).txReadyI = post.txReadyI := rfl
@[simp] theorem shiftEnable_resp : (shiftEnable pre post).resp = post.resp := rfl
@[simp] theorem shiftEnable_txStream : (shiftEnable pre post).txStream = post.txStream := rfl
@[simp] theorem shiftEnable_draws : (shiftEnable pre post).draws = post.draws := rfl
@[simp] theorem shiftEnable_resets : (shiftEnable pre post).resets = post.resets := rfl
@[simp] theorem shiftEnable_script : (shiftEnable pre post).script = post.script := rfl
end ShiftEnable

section CaptureByte
variable (b : Byte) (pre post : State)
@[simp] theorem captureByte_cfg : (captureByte b pre post).cfg = post.cfg := rfl
@[simp] theorem captureByte_rxmem : (captureByte b pre post).rxmem = Memory.write pre.rxmem (rxWptr pre) b := rfl
@[simp] theorem captureByte_rxRemain : (captureByte b pre post).rxRemain = if pre.rxRemain = 1 then pre.cfg.rxCap else pre.rxRemain - 1 := rfl
@[simp] theorem captureByte_rxWgray : (captureByte b pre post).rxWgray = bin2gray (wrap pre.cfg.rxCap (rxWptr pre + 1)) := rfl
@[simp] theorem captureByte_rxenSync : (captureByte b pre post).rxenSync = post.rxenSync := rfl
@[simp] theorem captureByte_ctrlRxen : (captureByte b pre post).ctrlRxen = post.ctrlRxen := rfl
@[simp] theorem captureByte_ctrlTcie : (captureByte b pre post).ctrlTcie = post.ctrlTcie := rfl
@[simp] theorem captureByte_rxSync : (captureByte b pre post).rxSync = post.rxSync := rfl
@[simp] theorem captureByte_rxRptr : (captureByte b pre post).rxRptr = post.rxRptr := rfl
@[simp] theorem captureByte_txmem : (captureByte b pre post).txmem = post.txmem := rfl
@[simp] theorem captureByte_txIns : (captureByte b pre post).txIns = post.txIns := rfl
@[simp] theorem captureByte_txExt : (captureByte b pre post).txExt = post.txExt := rfl
@[simp] theorem captureByte_txActive : (captureByte b pre post).txActive = post.txActive := rfl
@[simp] theorem captureByte_txStart : (captureByte b pre post).txStart = post.txStart := rfl
@[simp] theorem captureByte_txLen : (captureByte b pre post).txLen = post.txLen := rfl
@[simp] theorem captureByte_txPtr : (captureByte b pre post).txPtr = post.txPtr := rfl
@[simp] theorem captureByte_txRem : (captureByte b pre post).txRem = post.txRem := rfl
@[simp] theorem captureByte_stTc : (captureByte b pre post).stTc = post.stTc := rfl
@[simp] theorem captureByte_stTxack : (captureByte b pre post).stTxack = post.stTxack := rfl
@[simp] theorem captureByte_cplPulse : (captureByte b pre post).cplPulse = post.cplPulse := rfl
@[simp] theorem captureByte_wTotal : (captureByte b pre post).wTotal = pre.wTotal + 1 := rfl
@[simp] theorem captureByte_rTotal : (captureByte b pre post).rTotal = post.rTotal := rfl
@[simp] theorem captureByte_busErrors : (captureByte b pre post).busErrors = post.busErrors := rfl
@[simp] theorem captureByte_txReadyI : (captureByte b pre post).txReadyI = post.txReadyI := rfl
@[simp] theorem captureByte_resp : (captureByte b pre post).resp = post.resp := rfl
@[simp] theorem captureByte_txStream : (captureByte b pre post).txStream = post.txStream := rfl
@[simp] theorem captureByte_draws : (captureByte b pre post).draws = post.draws := rfl
@[simp] theorem captureByte_resets : (captureByte b pre post).resets = post.resets := rfl
@[simp] theorem captureByte_script : (captureByte b pre post).script = post.script := rfl
end CaptureByte

section ResetEvent
variable (s : State)
@[simp] theorem resetEvent_cfg : (resetEvent s).cfg = s.cfg := rfl
@[simp] theorem resetEvent_rxmem : (resetEvent s).rxmem = [] := rfl
@[simp] theorem resetEvent_rxRemain : (resetEvent s).rxRemain = s.cfg.rxCap := rfl
@[simp] theorem resetEvent_rxWgray : (resetEvent s).rxWgray = 0 := rfl
@[simp] theorem resetEvent_rxenSync : (resetEvent s).rxenSync = List.replicate s.cfg.syncStages false := rfl
@[simp] theorem resetEvent_ctrlRxen : (resetEvent s).ctrlRxen = false := rfl
@[simp] theorem resetEvent_ctrlTcie : (resetEvent s).ctrlTcie = false := rfl
@[simp] theorem resetEvent_rxSync : (resetEvent s).rxSync = List.replicate s.cfg.syncStages 0 := rfl
@[simp] theorem resetEvent_rxRptr : (resetEvent s).rxRptr = 0 := rfl
@[simp] theorem resetEvent_txmem : (resetEvent s).txmem = [] := rfl
@[simp] theorem resetEvent_txIns : (resetEvent s).txIns = 0 := rfl
@[simp] theorem resetEvent_txExt : (resetEvent s).txExt = 0 := rfl
@[simp] theorem resetEvent_txActive : (resetEvent s).txActive = false := rfl
@[simp] theorem resetEvent_txStart : (resetEvent s).txStart = 0 := rfl
@[simp] theorem resetEvent_txLen : (resetEvent s).txLen = 0 := rfl
@[simp] theorem resetEvent_txPtr : (resetEvent s).txPtr = 0 := rfl
@[simp] theorem resetEvent_txRem : (resetEvent s).txRem = 0 := rfl
@[simp] theorem resetEvent_stTc : (resetEvent s).stTc = false := rfl
@[simp] theorem resetEvent_stTxack : (resetEvent s).stTxack = false := rfl
@[simp] theorem resetEvent_cplPulse : (resetEvent s).cplPulse = false := rfl
@[simp] theorem resetEvent_wTotal : (resetEvent s).wTotal = 0 := rfl
@[simp] theorem resetEvent_rTotal : (resetEvent s).rTotal = 0 := rfl
@[simp] theorem resetEvent_busErrors : (resetEvent s).busErrors = s.busErrors := rfl
@[simp] theorem resetEvent_txReadyI : (resetEvent s).txReadyI = s.txReadyI := rfl
@[simp] theorem resetEvent_resp : (resetEvent s).resp = none := rfl
@[simp] theorem resetEvent_txStream : (resetEvent s).txStream = s.txStream := rfl
@[simp] theorem resetEvent_draws : (resetEvent s).draws = s.draws := rfl
@[simp] theorem resetEvent_resets : (resetEvent s).resets = s.resets + 1 := rfl
@[simp] theorem resetEvent_script : (resetEvent s).script = s.script := rfl
end ResetEvent

section TakeRequest
variable (r : Request) (q : List Request) (s : State)
@[simp] theorem takeRequest_cfg : (takeRequest r q s).cfg = s.cfg := rfl
@[simp] theorem takeRequest_rxmem : (takeRequest r q s).rxmem = s.rxmem := rfl
@[simp] theorem takeRequest_rxRemain : (takeRequest r q s).rxRemain = s.rxRemain := rfl
@[simp] theorem takeRequest_rxWgray : (takeRequest r q s).rxWgray = s.rxWgray := rfl
@[simp] theorem takeRequest_rxenSync : (takeRequest r q s).rxenSync = s.rxenSync := rfl
@[simp] theorem takeRequest_ctrlRxen : (takeRequest r q s).ctrlRxen = s.ctrlRxen := rfl
@[simp] theorem takeRequest_ctrlTcie : (takeRequest r q s).ctrlTcie = s.ctrlTcie := rfl
@[simp] theorem takeRequest_rxSync : (takeRequest r q s).rxSync = s.rxSync := rfl
@[simp] theorem takeRequest_rxRptr : (takeRequest r q s).rxRptr = s.rxRptr := rfl
@[simp] theorem takeRequest_txmem : (takeRequest r q s).txmem = s.txmem := rfl
@[simp] theorem takeRequest_txIns : (takeRequest r q s).txIns = s.txIns := rfl
@[simp] theorem takeRequest_txExt : (takeRequest r q s).txExt = s.txExt := rfl
@[simp] theorem takeRequest_txActive : (takeRequest r q s).txActive = s.txActive := rfl
@[simp] theorem takeRequest_txStart : (takeRequest r q s).txStart = s.txStart := rfl
@[simp] theorem takeRequest_txLen : (takeRequest r q s).txLen = s.txLen := rfl
@[simp] theorem takeRequest_txPtr : (takeRequest r q s).txPtr = s.txPtr := rfl
@[simp] theorem takeRequest_txRem : (takeRequest r q s).txRem = s.txRem := rfl
@[simp] theorem takeRequest_stTc : (takeRequest r q s).stTc = s.stTc := rfl
@[simp] theorem takeRequest_stTxack : (takeRequest r q s).stTxack = s.stTxack := rfl
@[simp] theorem takeRequest_cplPulse : (takeRequest r q s).cplPulse = s.cplPulse := rfl
@[simp] theorem takeRequest_wTotal : (takeRequest r q s).wTotal = s.wTotal := rfl
@[simp] theorem takeRequest_rTotal : (takeRequest r q s).rTotal = s.rTotal := rfl
@[simp] theorem takeRequest_busErrors : (takeRequest r q s).busErrors = s.busErrors := rfl
@[simp] theorem takeRequest_txReadyI : (takeRequest r q s).txReadyI = r.txReady := rfl
@[simp] theorem takeRequest_resp : (takeRequest r q s).resp = s.resp := rfl
@[simp] theorem takeRequest_txStream : (takeRequest r q s).txStream = s.txStream := rfl
@[simp] theorem takeRequest_draws : (takeRequest r q s).draws = s.draws := rfl
@[simp] theorem takeRequest_resets : (takeRequest r q s).resets = s.resets := rfl
@[simp] theorem takeRequest_script : (takeRequest r q s).script = q := rfl
end TakeRequest

end Sys2Proof.Machine
end

