-- ==== Sys2Proof/Laws/Ops.lean ====
section
/-! SUPPORT. For each shared operation, one lemma that says what it can do, and what it leaves unchanged. -/

namespace Sys2Proof.Machine

/-! ### Synchronizer chains -/

@[simp] theorem shiftIn_length {α : Type} (x : α) (l : List α) : (shiftIn x l).length = l.length := by
  simp [shiftIn]

theorem shiftIn_getElem? {α : Type} (x : α) (l : List α) (j : Nat) (hj : j < l.length) :
    (shiftIn x l)[j]? = if j = 0 then some x else l[j - 1]? := by
  cases j with
  | zero => simp [shiftIn, hj]
  | succ k => simp [shiftIn, hj]

theorem mem_shiftIn {α : Type} (x y : α) (l : List α) (h : y ∈ shiftIn x l) : y = x ∨ y ∈ l := by
  simpa using List.mem_of_mem_take h

/-! ### The phases of the TX engine (R48) -/

theorem txDone_iff (s : State) : txDone s = true ↔ s.txActive = true ∧ s.txRem = 0 := by
  simp [txDone]

theorem txValidO_iff (s : State) : txValidO s = true ↔ s.txActive = true ∧ s.txRem ≠ 0 := by
  simp [txValidO]

theorem engineEdge_done (pre post : State) (h : txDone pre = true) :
    engineEdge pre post = completionStep pre post := by simp [engineEdge, h]

theorem engineEdge_handshake (pre post : State) (h : txValidO pre = true) (hr : pre.txReadyI = true) :
    engineEdge pre post = handshake pre (clearPulse post) := by
  have hd : txDone pre = false := by
    have := (txValidO_iff pre).1 h
    simp [txDone, this.2]
  simp [engineEdge, hd, h, hr]

theorem engineEdge_rest (pre post : State) (hd : txDone pre = false)
    (h : txValidO pre = false ∨ pre.txReadyI = false) : engineEdge pre post = clearPulse post := by
  rcases h with h | h <;> simp [engineEdge, hd, h]

/-- Everything the engine can do at a `clk` edge. -/
theorem engineEdge_cases (pre post : State) :
    (txDone pre = true ∧ completedOffset pre = pre.txIns ∧
      engineEdge pre post = goIdle (reportCompletion pre post)) ∨
    (txDone pre = true ∧ completedOffset pre ≠ pre.txIns ∧
      engineEdge pre post = armBlock (completedOffset pre) pre.txIns (reportCompletion pre post)) ∨
    (txDone pre = false ∧ txValidO pre = true ∧ pre.txReadyI = true ∧
      engineEdge pre post = handshake pre (clearPulse post)) ∨
    (txDone pre = false ∧ (txValidO pre = false ∨ pre.txReadyI = false) ∧ engineEdge pre post = clearPulse post) := by
  by_cases hd : txDone pre = true
  · by_cases he : completedOffset pre = pre.txIns
    · exact .inl ⟨hd, he, by simp [engineEdge, completionStep, hd, he]⟩
    · exact .inr (.inl ⟨hd, he, by simp [engineEdge, completionStep, hd, he]⟩)
  · have hd' : txDone pre = false := by simpa using hd
    by_cases hv : txValidO pre = true ∧ pre.txReadyI = true
    · exact .inr (.inr (.inl ⟨hd', hv.1, hv.2, engineEdge_handshake pre post hv.1 hv.2⟩))
    · have hv' : txValidO pre = false ∨ pre.txReadyI = false := by
        rcases Bool.eq_false_or_eq_true (txValidO pre) with h | h
        · exact .inr (by simpa [h] using hv)
        · exact .inl h
      exact .inr (.inr (.inr ⟨hd', hv', engineEdge_rest pre post hd' hv'⟩))

/-! ### What the edge parts leave unchanged -/

theorem engineEdge_cfg (pre post : State) : (engineEdge pre post).cfg = post.cfg := by
  rcases engineEdge_cases pre post with ⟨_, _, h⟩ | ⟨_, _, h⟩ | ⟨_, _, _, h⟩ | ⟨_, _, h⟩ <;> simp [h]

theorem engineEdge_rxmem (pre post : State) : (engineEdge pre post).rxmem = post.rxmem := by
  rcases engineEdge_cases pre post with ⟨_, _, h⟩ | ⟨_, _, h⟩ | ⟨_, _, _, h⟩ | ⟨_, _, h⟩ <;> simp [h]

theorem engineEdge_rxRemain (pre post : State) : (engineEdge pre post).rxRemain = post.rxRemain := by
  rcases engineEdge_cases pre post with ⟨_, _, h⟩ | ⟨_, _, h⟩ | ⟨_, _, _, h⟩ | ⟨_, _, h⟩ <;> simp [h]

theorem engineEdge_rxWgray (pre post : State) : (engineEdge pre post).rxWgray = post.rxWgray := by
  rcases engineEdge_cases pre post with ⟨_, _, h⟩ | ⟨_, _, h⟩ | ⟨_, _, _, h⟩ | ⟨_, _, h⟩ <;> simp [h]

theorem engineEdge_rxenSync (pre post : State) : (engineEdge pre post).rxenSync = post.rxenSync := by
  rcases engineEdge_cases pre post with ⟨_, _, h⟩ | ⟨_, _, h⟩ | ⟨_, _, _, h⟩ | ⟨_, _, h⟩ <;> simp [h]

theorem engineEdge_ctrlRxen (pre post : State) : (engineEdge pre post).ctrlRxen = post.ctrlRxen := by
  rcases engineEdge_cases pre post with ⟨_, _, h⟩ | ⟨_, _, h⟩ | ⟨_, _, _, h⟩ | ⟨_, _, h⟩ <;> simp [h]

theorem engineEdge_ctrlTcie (pre post : State) : (engineEdge pre post).ctrlTcie = post.ctrlTcie := by
  rcases engineEdge_cases pre post with ⟨_, _, h⟩ | ⟨_, _, h⟩ | ⟨_, _, _, h⟩ | ⟨_, _, h⟩ <;> simp [h]

theorem engineEdge_rxRptr (pre post : State) : (engineEdge pre post).rxRptr = post.rxRptr := by
  rcases engineEdge_cases pre post with ⟨_, _, h⟩ | ⟨_, _, h⟩ | ⟨_, _, _, h⟩ | ⟨_, _, h⟩ <;> simp [h]

theorem engineEdge_txmem (pre post : State) : (engineEdge pre post).txmem = post.txmem := by
  rcases engineEdge_cases pre post with ⟨_, _, h⟩ | ⟨_, _, h⟩ | ⟨_, _, _, h⟩ | ⟨_, _, h⟩ <;> simp [h]

theorem engineEdge_txIns (pre post : State) : (engineEdge pre post).txIns = post.txIns := by
  rcases engineEdge_cases pre post with ⟨_, _, h⟩ | ⟨_, _, h⟩ | ⟨_, _, _, h⟩ | ⟨_, _, h⟩ <;> simp [h]

theorem engineEdge_stTxack (pre post : State) : (engineEdge pre post).stTxack = post.stTxack := by
  rcases engineEdge_cases pre post with ⟨_, _, h⟩ | ⟨_, _, h⟩ | ⟨_, _, _, h⟩ | ⟨_, _, h⟩ <;> simp [h]

theorem engineEdge_wTotal (pre post : State) : (engineEdge pre post).wTotal = post.wTotal := by
  rcases engineEdge_cases pre post with ⟨_, _, h⟩ | ⟨_, _, h⟩ | ⟨_, _, _, h⟩ | ⟨_, _, h⟩ <;> simp [h]

theorem engineEdge_rTotal (pre post : State) : (engineEdge pre post).rTotal = post.rTotal := by
  rcases engineEdge_cases pre post with ⟨_, _, h⟩ | ⟨_, _, h⟩ | ⟨_, _, _, h⟩ | ⟨_, _, h⟩ <;> simp [h]

theorem engineEdge_busErrors (pre post : State) : (engineEdge pre post).busErrors = post.busErrors := by
  rcases engineEdge_cases pre post with ⟨_, _, h⟩ | ⟨_, _, h⟩ | ⟨_, _, _, h⟩ | ⟨_, _, h⟩ <;> simp [h]

theorem engineEdge_txReadyI (pre post : State) : (engineEdge pre post).txReadyI = post.txReadyI := by
  rcases engineEdge_cases pre post with ⟨_, _, h⟩ | ⟨_, _, h⟩ | ⟨_, _, _, h⟩ | ⟨_, _, h⟩ <;> simp [h]

theorem engineEdge_resp (pre post : State) : (engineEdge pre post).resp = post.resp := by
  rcases engineEdge_cases pre post with ⟨_, _, h⟩ | ⟨_, _, h⟩ | ⟨_, _, _, h⟩ | ⟨_, _, h⟩ <;> simp [h]

theorem engineEdge_draws (pre post : State) : (engineEdge pre post).draws = post.draws := by
  rcases engineEdge_cases pre post with ⟨_, _, h⟩ | ⟨_, _, h⟩ | ⟨_, _, _, h⟩ | ⟨_, _, h⟩ <;> simp [h]

theorem engineEdge_resets (pre post : State) : (engineEdge pre post).resets = post.resets := by
  rcases engineEdge_cases pre post with ⟨_, _, h⟩ | ⟨_, _, h⟩ | ⟨_, _, _, h⟩ | ⟨_, _, h⟩ <;> simp [h]

theorem engineEdge_script (pre post : State) : (engineEdge pre post).script = post.script := by
  rcases engineEdge_cases pre post with ⟨_, _, h⟩ | ⟨_, _, h⟩ | ⟨_, _, _, h⟩ | ⟨_, _, h⟩ <;> simp [h]

theorem engineEdge_rxSync (pre post : State) : (engineEdge pre post).rxSync = post.rxSync := by
  rcases engineEdge_cases pre post with ⟨_, _, h⟩ | ⟨_, _, h⟩ | ⟨_, _, _, h⟩ | ⟨_, _, h⟩ <;> simp [h]

@[simp] theorem edgeParts_cfg (s : State) : (edgeParts s).cfg = s.cfg := by
  simp [edgeParts, engineEdge_cfg]

@[simp] theorem edgeParts_rxmem (s : State) : (edgeParts s).rxmem = s.rxmem := by
  simp [edgeParts, engineEdge_rxmem]

@[simp] theorem edgeParts_rxRemain (s : State) : (edgeParts s).rxRemain = s.rxRemain := by
  simp [edgeParts, engineEdge_rxRemain]

@[simp] theorem edgeParts_rxWgray (s : State) : (edgeParts s).rxWgray = s.rxWgray := by
  simp [edgeParts, engineEdge_rxWgray]

@[simp] theorem edgeParts_rxenSync (s : State) : (edgeParts s).rxenSync = s.rxenSync := by
  simp [edgeParts, engineEdge_rxenSync]

@[simp] theorem edgeParts_ctrlRxen (s : State) : (edgeParts s).ctrlRxen = s.ctrlRxen := by
  simp [edgeParts, engineEdge_ctrlRxen]

@[simp] theorem edgeParts_ctrlTcie (s : State) : (edgeParts s).ctrlTcie = s.ctrlTcie := by
  simp [edgeParts, engineEdge_ctrlTcie]

@[simp] theorem edgeParts_rxRptr (s : State) : (edgeParts s).rxRptr = s.rxRptr := by
  simp [edgeParts, engineEdge_rxRptr]

@[simp] theorem edgeParts_txmem (s : State) : (edgeParts s).txmem = s.txmem := by
  simp [edgeParts, engineEdge_txmem]

@[simp] theorem edgeParts_txIns (s : State) : (edgeParts s).txIns = s.txIns := by
  simp [edgeParts, engineEdge_txIns]

@[simp] theorem edgeParts_stTxack (s : State) : (edgeParts s).stTxack = s.stTxack := by
  simp [edgeParts, engineEdge_stTxack]

@[simp] theorem edgeParts_wTotal (s : State) : (edgeParts s).wTotal = s.wTotal := by
  simp [edgeParts, engineEdge_wTotal]

@[simp] theorem edgeParts_rTotal (s : State) : (edgeParts s).rTotal = s.rTotal := by
  simp [edgeParts, engineEdge_rTotal]

@[simp] theorem edgeParts_busErrors (s : State) : (edgeParts s).busErrors = s.busErrors := by
  simp [edgeParts, engineEdge_busErrors]

@[simp] theorem edgeParts_txReadyI (s : State) : (edgeParts s).txReadyI = s.txReadyI := by
  simp [edgeParts, engineEdge_txReadyI]

@[simp] theorem edgeParts_resp (s : State) : (edgeParts s).resp = s.resp := by
  simp [edgeParts, engineEdge_resp]

@[simp] theorem edgeParts_draws (s : State) : (edgeParts s).draws = s.draws := by
  simp [edgeParts, engineEdge_draws]

@[simp] theorem edgeParts_resets (s : State) : (edgeParts s).resets = s.resets := by
  simp [edgeParts, engineEdge_resets]

@[simp] theorem edgeParts_script (s : State) : (edgeParts s).script = s.script := by
  simp [edgeParts, engineEdge_script]

@[simp] theorem edgeParts_rxSync (s : State) : (edgeParts s).rxSync = shiftIn s.rxWgray s.rxSync := by
  simp [edgeParts, engineEdge_rxSync]

@[simp] theorem edgeParts_cplPulse (s : State) : (edgeParts s).cplPulse = txDone s := by
  rcases engineEdge_cases s (syncShift s s) with ⟨hd, _, h⟩ | ⟨hd, _, h⟩ | ⟨hd, _, _, h⟩ | ⟨hd, _, h⟩ <;>
    simp [edgeParts, h, hd]

@[simp] theorem edgeParts_stTc (s : State) : (edgeParts s).stTc = (txDone s || s.stTc) := by
  rcases engineEdge_cases s (syncShift s s) with ⟨hd, _, h⟩ | ⟨hd, _, h⟩ | ⟨hd, _, _, h⟩ | ⟨hd, _, h⟩ <;>
    simp [edgeParts, h, hd]

/-! ### The register parts of the transactions -/

theorem popRx_cases (pre post : State) :
    (rxEmpty pre = true ∧ popRx pre post = post) ∨
    (rxEmpty pre = false ∧ rxOverrun pre = true ∧ popRx pre post = countDraw pre (advanceRptr pre post)) ∨
    (rxEmpty pre = false ∧ rxOverrun pre = false ∧ popRx pre post = advanceRptr pre post) := by
  rcases Bool.eq_false_or_eq_true (rxEmpty pre) with he | he <;>
    rcases Bool.eq_false_or_eq_true (rxOverrun pre) with ho | ho <;> simp [popRx, he, ho]

theorem writeTxdata_cases (v : Word) (pre post : State) :
    (txFull pre = true ∧ writeTxdata v pre post = dropByte post) ∨
    (txFull pre = false ∧ writeTxdata v pre post = acceptByte (txdataByte v) pre post) := by
  rcases Bool.eq_false_or_eq_true (txFull pre) with h | h <;> simp [writeTxdata, h]

theorem kick_cases (pre post : State) :
    (pre.txActive = false ∧ txEmpty pre = false ∧ kick pre post = armBlock pre.txExt pre.txIns post) ∨
    ((pre.txActive = true ∨ txEmpty pre = true) ∧ kick pre post = post) := by
  rcases Bool.eq_false_or_eq_true pre.txActive with h | h <;>
    rcases Bool.eq_false_or_eq_true (txEmpty pre) with h' | h' <;> simp [kick, h, h']

theorem writeStatus_cases (v : Word) (pre post : State) :
    (txDone pre = false ∧ statusTcBit v = true ∧ writeStatus v pre post = clearTc post) ∨
    ((txDone pre = true ∨ statusTcBit v = false) ∧ writeStatus v pre post = post) := by
  rcases Bool.eq_false_or_eq_true (txDone pre) with h | h <;>
    rcases Bool.eq_false_or_eq_true (statusTcBit v) with h' | h' <;> simp [writeStatus, h, h']

theorem rxEdge_cases (v : Bool) (b : Byte) (s : State) :
    (v = true ∧ rxEnabled s = true ∧ rxEdge v b s = captureByte b s (shiftEnable s (noResponse s))) ∨
    ((v = false ∨ rxEnabled s = false) ∧ rxEdge v b s = shiftEnable s (noResponse s)) := by
  rcases Bool.eq_false_or_eq_true v with h | h <;>
    rcases Bool.eq_false_or_eq_true (rxEnabled s) with h' | h' <;> simp [rxEdge, h, h']

/-! ### Step -/

/-- What one step can be. -/
theorem step_cases (s : State) :
    (s.script = [] ∧ step s = .refused .endOfScript) ∨
    ∃ r rest, s.script = r :: rest ∧
      ((∃ i, decode r.desc r.wdata = .instr i ∧ step s = exec i (takeRequest r rest s)) ∨
       (∃ c, decode r.desc r.wdata = .busError c ∧ step s = .next (busErrorEdge c r.desc (takeRequest r rest s))) ∨
       (∃ why, decode r.desc r.wdata = .refused why ∧ step s = .refused (.reservedDescriptor why))) := by
  cases hs : s.script with
  | nil => exact .inl ⟨rfl, by simp [step, hs]⟩
  | cons r rest =>
    refine .inr ⟨r, rest, rfl, ?_⟩
    cases hd : decode r.desc r.wdata with
    | instr i => exact .inl ⟨i, rfl, by simp [step, hs, hd]⟩
    | busError c => exact .inr (.inl ⟨c, rfl, by simp [step, hs, hd]⟩)
    | refused why => exact .inr (.inr ⟨why, rfl, by simp [step, hs, hd]⟩)

end Sys2Proof.Machine
end

