-- ==== Sys2Proof/Laws/Storage.lean ====
section
/-! SUPPORT. The laws of storage: a write is read back, leaves every other byte alone, and keeps the canonical form. -/

namespace Sys2Proof.Machine

@[simp] theorem Memory.read?_nil (a : Nat) : Memory.read? [] a = none := rfl

theorem Memory.read?_write_same (m : Memory) (a : Nat) (b : Byte) :
    Memory.read? (Memory.write m a b) a = some b := by
  induction m with
  | nil => simp [Memory.write, Memory.read?]
  | cons c rest ih =>
    obtain ⟨x, y⟩ := c
    simp only [Memory.write]
    split
    · simp [Memory.read?]
    · split
      · simp [Memory.read?]
      · rename_i _ hne
        have hxa : ¬ x = a := fun h => hne h.symm
        simp [Memory.read?, hxa, ih]

theorem Memory.read?_write_other (m : Memory) (a a' : Nat) (b : Byte) (h : a' ≠ a) :
    Memory.read? (Memory.write m a b) a' = Memory.read? m a' := by
  have h' : ¬ a = a' := fun e => h e.symm
  induction m with
  | nil => simp [Memory.write, Memory.read?, h']
  | cons c rest ih =>
    obtain ⟨x, y⟩ := c
    simp only [Memory.write]
    split
    · simp [Memory.read?, h']
    · split
      · rename_i _ he
        subst he
        simp [Memory.read?, h']
      · simp [Memory.read?, ih]

theorem Memory.mem_write (m : Memory) (a : Nat) (b : Byte) (c : Host.Cell) (h : c ∈ Memory.write m a b) :
    c = (a, b) ∨ c ∈ m := by
  induction m with
  | nil => simpa [Memory.write] using h
  | cons d rest ih =>
    obtain ⟨x, y⟩ := d
    simp only [Memory.write] at h
    split at h
    · simpa using h
    · split at h
      · rcases List.mem_cons.1 h with h | h
        · exact .inl h
        · exact .inr (List.mem_cons_of_mem _ h)
      · rcases List.mem_cons.1 h with h | h
        · exact .inr (h ▸ List.mem_cons_self ..)
        · exact (ih h).imp_right (List.mem_cons_of_mem _)

theorem Memory.wf_cons (x : Nat) (y : Byte) (m : Memory) :
    Memory.wf ((x, y) :: m) = true ↔ (∀ c ∈ m.head?, x < c.1) ∧ Memory.wf m = true := by
  cases m with
  | nil => simp [Memory.wf]
  | cons d rest => obtain ⟨z, w⟩ := d; simp [Memory.wf]

theorem Memory.write_head (m : Memory) (a : Nat) (b : Byte) (c : Host.Cell)
    (h : c ∈ (Memory.write m a b).head?) : c.1 = a ∨ c ∈ m.head? := by
  cases m with
  | nil => left; simp [Memory.write] at h; simp [← h]
  | cons d rest =>
    obtain ⟨x, y⟩ := d
    simp only [Memory.write] at h
    split at h
    · left; simp at h; simp [← h]
    · split at h
      · left; simp at h; simp [← h]
      · right; simpa using h

/-- Every write keeps the canonical form. -/
theorem Memory.wf_write (m : Memory) (a : Nat) (b : Byte) (h : Memory.wf m = true) :
    Memory.wf (Memory.write m a b) = true := by
  induction m with
  | nil => simp [Memory.write, Memory.wf]
  | cons d rest ih =>
    obtain ⟨x, y⟩ := d
    have hr := (Memory.wf_cons x y rest).1 h
    simp only [Memory.write]
    split
    · rename_i hlt
      exact (Memory.wf_cons a b _).2 ⟨by simpa using hlt, h⟩
    · split
      · rename_i _ he
        subst he
        exact (Memory.wf_cons a b rest).2 hr
      · rename_i hnlt hne
        refine (Memory.wf_cons x y _).2 ⟨fun c hc => ?_, ih hr.2⟩
        rcases Memory.write_head rest a b c hc with h' | h'
        · omega
        · exact hr.1 c h'

/-- A write inside the capacity keeps every listed address inside it. -/
theorem Memory.inside_write (m : Memory) (a cap : Nat) (b : Byte) (ha : a < cap) (h : ∀ c ∈ m, c.1 < cap) :
    ∀ c ∈ Memory.write m a b, c.1 < cap := by
  intro c hc
  rcases Memory.mem_write m a b c hc with rfl | h'
  · exact ha
  · exact h c h'

end Sys2Proof.Machine
end

