-- ==== Sys2Proof/Laws/Edge.lean ====
section
/-! SUPPORT. The edge parts meet the edge rules, and the integer forms of the cursor arithmetic. -/

namespace Sys2Proof.Machine

theorem Config.txCap_pos (c : Config) : 0 < c.txCap := Nat.two_pow_pos _

theorem Config.rxCap_pos (c : Config) : 0 < c.rxCap := Nat.two_pow_pos _

theorem wrapSub_int (cap a b : Nat) (h : 0 < cap) : (wrapSub cap a b : Int) = ((a : Int) - b) % cap :=
  Int.toNat_of_nonneg (Int.emod_nonneg _ (by omega))

theorem wrapSub_lt (cap a b : Nat) (h : 0 < cap) : wrapSub cap a b < cap := by
  have h1 := wrapSub_int cap a b h
  have h2 := Int.emod_lt_of_pos ((a : Int) - b) (by omega : (0 : Int) < cap)
  omega

theorem txFull_iff (s : State) : txFull s = true ↔ (s.txIns : Int) = ((s.txExt : Int) - 1) % s.cfg.txCap := by
  have h := wrapSub_int s.cfg.txCap s.txExt 1 (Config.txCap_pos s.cfg)
  simp only [txFull, txBoundary, beq_iff_eq]
  push_cast at h
  rw [← h]; omega

theorem rxEnabled_iff (s : State) : rxEnabled s = true ↔ s.rxenSync[s.cfg.syncStages - 1]? = some true := by
  simp only [rxEnabled, lastStage, List.getD]
  cases s.rxenSync[s.cfg.syncStages - 1]? <;> simp

theorem txDone_eq_false (s : State) (h : ¬(s.txActive = true ∧ s.txRem = 0)) : txDone s = false := by
  rw [← Bool.not_eq_true, txDone_iff]; exact h

/-- The synchronizer and the engine follow their rules at every edge (R99). -/
theorem edgeParts_edgeRule (s : State) : EdgeRule s (edgeParts s) := by
  refine ⟨⟨by simp, fun j hj => by simp [shiftIn_getElem? _ _ _ hj]⟩, ?_, ?_, ?_, ?_⟩
  · intro ha hr hy
    have hv : txValidO s = true := by simp [txValidO, ha, hr]
    simp [edgeParts, engineEdge_handshake s _ hv hy, ha]
  · intro ha hr hy
    have hd : txDone s = false := by simp [txDone, ha, hr]
    simp [edgeParts, engineEdge_rest s _ hd (.inr hy), EngineKept]
  · intro ha hr
    have hd : txDone s = true := by simp [txDone, ha, hr]
    rw [edgeParts, engineEdge_done _ _ hd, completionStep]
    split
    · rename_i h
      have h' : s.txPtr % s.cfg.txCap = s.txIns := h
      simp [completedOffset, wrap, h']
    · rename_i h
      have h' : ¬ s.txPtr % s.cfg.txCap = s.txIns := h
      simp [completedOffset, wrap, h', ArmedWith, runLength]
      constructor <;> intro h1 <;> intros <;> omega
  · intro ha
    have hd : txDone s = false := by simp [txDone, ha]
    have hv : txValidO s = false := by simp [txValidO, ha]
    simp [edgeParts, engineEdge_rest s _ hd (.inl hv), EngineKept]

theorem edgeParts_tcRule (s : State) : TcRule s (edgeParts s) :=
  ⟨fun h => by simp [(txDone_iff s).2 h], fun h => by simp [txDone_eq_false s h]⟩

theorem edgeParts_plainFrame (s : State) : PlainFrame s (edgeParts s) := by
  simp [PlainFrame, EnvKept, InputsKept, RxDomainKept, ConsumerKept, CtrlKept, ProducerKept, TxStorageKept, RecordKept]

/-- What a transaction without side effect does (R94). -/
theorem respond_plainEdge (v : Word) (s : State) : PlainEdge v s (respond v false (edgeParts s)) :=
  ⟨rfl, edgeParts_edgeRule s, edgeParts_tcRule s, edgeParts_plainFrame s⟩

/-! ### Runs -/

@[simp] theorem runSteps_zero (s : State) : runSteps 0 s = .next s := rfl

/-- A run whose first step answers a next state goes on from there. -/
theorem runSteps_succ (n : Nat) (s t : State) (h : step s = .next t) : runSteps (n + 1) s = runSteps n t := by
  simp [runSteps, h]

/-- Everything a completed run of `n + 1` steps can be. -/
theorem runSteps_succ_next (n : Nat) (s u : State) :
    runSteps (n + 1) s = .next u ↔ ∃ t, step s = .next t ∧ runSteps n t = .next u := by
  rw [runSteps]
  split <;> simp_all

/-- The invariant says nothing of the script. -/
theorem inv_withScript (s : State) (reqs : List Request) (h : s.Inv) : ({ s with script := reqs } : State).Inv where
  widths := { h.widths with }
  storage := { h.storage with }
  receive := { h.receive with }
  transmit := { h.transmit with }
  written := { h.written with }

end Sys2Proof.Machine
end

