-- ==== Sys2Proof/Laws/PerInstr.lean ====
section
/-! SUPPORT. Statements about each instruction as syntax, one lemma per constructor. -/

namespace Sys2Proof.Laws.EncodedWords

/-- The encoded descriptor names an operation (R130), and a second word is there exactly for a write (R123). -/
def Statement (i : Instr) : Prop :=
  Desc.isReserved (encode i).1 = false ∧ ((encode i).2.isSome = true ↔ Desc.lengthBits (encode i).1 = 48)

theorem rdCtrl : Statement .rdCtrl := ⟨by decide, by decide⟩
theorem rdStatus : Statement .rdStatus := ⟨by decide, by decide⟩
theorem rdRxdata : Statement .rdRxdata := ⟨by decide, by decide⟩
theorem rdRxcursor : Statement .rdRxcursor := ⟨by decide, by decide⟩
theorem rdRxremain : Statement .rdRxremain := ⟨by decide, by decide⟩
theorem rdRxextract : Statement .rdRxextract := ⟨by decide, by decide⟩
theorem rdRxcount : Statement .rdRxcount := ⟨by decide, by decide⟩
theorem rdTxdata : Statement .rdTxdata := ⟨by decide, by decide⟩
theorem rdTxkick : Statement .rdTxkick := ⟨by decide, by decide⟩
theorem rdTxinsert : Statement .rdTxinsert := ⟨by decide, by decide⟩
theorem rdTxextract : Statement .rdTxextract := ⟨by decide, by decide⟩
theorem rdTxptr : Statement .rdTxptr := ⟨by decide, by decide⟩
theorem rdTxlen : Statement .rdTxlen := ⟨by decide, by decide⟩
theorem rdTxremain : Statement .rdTxremain := ⟨by decide, by decide⟩
theorem rdTxcount : Statement .rdTxcount := ⟨by decide, by decide⟩
theorem rdTxfree : Statement .rdTxfree := ⟨by decide, by decide⟩
theorem rdParam : Statement .rdParam := ⟨by decide, by decide⟩
theorem wrCtrl (wdata : Word) : Statement (.wrCtrl wdata) :=
  ⟨(by decide : Desc.isReserved (writeDesc .ctrl) = false),
    iff_of_true rfl (by decide : Desc.lengthBits (writeDesc .ctrl) = 48)⟩
theorem wrStatus (wdata : Word) : Statement (.wrStatus wdata) :=
  ⟨(by decide : Desc.isReserved (writeDesc .status) = false),
    iff_of_true rfl (by decide : Desc.lengthBits (writeDesc .status) = 48)⟩
theorem wrRxdata (wdata : Word) : Statement (.wrRxdata wdata) :=
  ⟨(by decide : Desc.isReserved (writeDesc .rxdata) = false),
    iff_of_true rfl (by decide : Desc.lengthBits (writeDesc .rxdata) = 48)⟩
theorem wrRxcursor (wdata : Word) : Statement (.wrRxcursor wdata) :=
  ⟨(by decide : Desc.isReserved (writeDesc .rxcursor) = false),
    iff_of_true rfl (by decide : Desc.lengthBits (writeDesc .rxcursor) = 48)⟩
theorem wrRxremain (wdata : Word) : Statement (.wrRxremain wdata) :=
  ⟨(by decide : Desc.isReserved (writeDesc .rxremain) = false),
    iff_of_true rfl (by decide : Desc.lengthBits (writeDesc .rxremain) = 48)⟩
theorem wrRxextract (wdata : Word) : Statement (.wrRxextract wdata) :=
  ⟨(by decide : Desc.isReserved (writeDesc .rxextract) = false),
    iff_of_true rfl (by decide : Desc.lengthBits (writeDesc .rxextract) = 48)⟩
theorem wrRxcount (wdata : Word) : Statement (.wrRxcount wdata) :=
  ⟨(by decide : Desc.isReserved (writeDesc .rxcount) = false),
    iff_of_true rfl (by decide : Desc.lengthBits (writeDesc .rxcount) = 48)⟩
theorem wrTxdata (wdata : Word) : Statement (.wrTxdata wdata) :=
  ⟨(by decide : Desc.isReserved (writeDesc .txdata) = false),
    iff_of_true rfl (by decide : Desc.lengthBits (writeDesc .txdata) = 48)⟩
theorem wrTxkick (wdata : Word) : Statement (.wrTxkick wdata) :=
  ⟨(by decide : Desc.isReserved (writeDesc .txkick) = false),
    iff_of_true rfl (by decide : Desc.lengthBits (writeDesc .txkick) = 48)⟩
theorem wrTxinsert (wdata : Word) : Statement (.wrTxinsert wdata) :=
  ⟨(by decide : Desc.isReserved (writeDesc .txinsert) = false),
    iff_of_true rfl (by decide : Desc.lengthBits (writeDesc .txinsert) = 48)⟩
theorem wrTxextract (wdata : Word) : Statement (.wrTxextract wdata) :=
  ⟨(by decide : Desc.isReserved (writeDesc .txextract) = false),
    iff_of_true rfl (by decide : Desc.lengthBits (writeDesc .txextract) = 48)⟩
theorem wrTxptr (wdata : Word) : Statement (.wrTxptr wdata) :=
  ⟨(by decide : Desc.isReserved (writeDesc .txptr) = false),
    iff_of_true rfl (by decide : Desc.lengthBits (writeDesc .txptr) = 48)⟩
theorem wrTxlen (wdata : Word) : Statement (.wrTxlen wdata) :=
  ⟨(by decide : Desc.isReserved (writeDesc .txlen) = false),
    iff_of_true rfl (by decide : Desc.lengthBits (writeDesc .txlen) = 48)⟩
theorem wrTxremain (wdata : Word) : Statement (.wrTxremain wdata) :=
  ⟨(by decide : Desc.isReserved (writeDesc .txremain) = false),
    iff_of_true rfl (by decide : Desc.lengthBits (writeDesc .txremain) = 48)⟩
theorem wrTxcount (wdata : Word) : Statement (.wrTxcount wdata) :=
  ⟨(by decide : Desc.isReserved (writeDesc .txcount) = false),
    iff_of_true rfl (by decide : Desc.lengthBits (writeDesc .txcount) = 48)⟩
theorem wrTxfree (wdata : Word) : Statement (.wrTxfree wdata) :=
  ⟨(by decide : Desc.isReserved (writeDesc .txfree) = false),
    iff_of_true rfl (by decide : Desc.lengthBits (writeDesc .txfree) = 48)⟩
theorem wrParam (wdata : Word) : Statement (.wrParam wdata) :=
  ⟨(by decide : Desc.isReserved (writeDesc .param) = false),
    iff_of_true rfl (by decide : Desc.lengthBits (writeDesc .param) = 48)⟩
theorem evClk : Statement .evClk := ⟨by decide, by decide⟩
theorem evRx (rxValid : Bool) (rxData : Byte) : Statement (.evRx rxValid rxData) := by
  revert rxValid rxData; unfold Statement; decide
theorem evReset : Statement .evReset := ⟨by decide, by decide⟩

end Sys2Proof.Laws.EncodedWords
end

