-- ==== Sys2Proof/Tests/Slice0.lean ====
section
/-! SUPPORT. Tests, each against a vector of `95_test_vectors.md` or a word written out from `30_encoding.md`, and the
witnesses of the statements' hypotheses. -/

namespace Sys2Proof.Tests

open Sys2Proof Sys2Proof.Machine

/-! ### Decoding: every constructor's word (R129) -/

theorem test_decode_control_reads :
    decode 0x2000#16 0#32 = .instr .rdCtrl ∧ decode 0x2004#16 0#32 = .instr .rdStatus ∧
    decode 0x2040#16 0#32 = .instr .rdParam := by decide

theorem test_decode_receive_reads :
    decode 0x2008#16 0#32 = .instr .rdRxdata ∧ decode 0x200C#16 0#32 = .instr .rdRxcursor ∧
    decode 0x2010#16 0#32 = .instr .rdRxremain ∧ decode 0x2014#16 0#32 = .instr .rdRxextract ∧
    decode 0x2018#16 0#32 = .instr .rdRxcount := by decide

theorem test_decode_transmit_reads :
    decode 0x201C#16 0#32 = .instr .rdTxdata ∧ decode 0x2020#16 0#32 = .instr .rdTxkick ∧
    decode 0x2024#16 0#32 = .instr .rdTxinsert ∧ decode 0x2028#16 0#32 = .instr .rdTxextract ∧
    decode 0x202C#16 0#32 = .instr .rdTxptr ∧ decode 0x2030#16 0#32 = .instr .rdTxlen ∧
    decode 0x2034#16 0#32 = .instr .rdTxremain ∧ decode 0x2038#16 0#32 = .instr .rdTxcount ∧
    decode 0x203C#16 0#32 = .instr .rdTxfree := by decide

theorem test_decode_control_and_receive_writes :
    decode 0x6000#16 1#32 = .instr (.wrCtrl 1#32) ∧ decode 0x6004#16 0x20#32 = .instr (.wrStatus 0x20#32) ∧
    decode 0x6008#16 3#32 = .instr (.wrRxdata 3#32) ∧ decode 0x600C#16 4#32 = .instr (.wrRxcursor 4#32) ∧
    decode 0x6010#16 5#32 = .instr (.wrRxremain 5#32) ∧ decode 0x6014#16 6#32 = .instr (.wrRxextract 6#32) ∧
    decode 0x6018#16 7#32 = .instr (.wrRxcount 7#32) ∧ decode 0x6040#16 8#32 = .instr (.wrParam 8#32) := by decide

theorem test_decode_transmit_writes :
    decode 0x601C#16 1#32 = .instr (.wrTxdata 1#32) ∧ decode 0x6020#16 2#32 = .instr (.wrTxkick 2#32) ∧
    decode 0x6024#16 3#32 = .instr (.wrTxinsert 3#32) ∧ decode 0x6028#16 4#32 = .instr (.wrTxextract 4#32) ∧
    decode 0x602C#16 5#32 = .instr (.wrTxptr 5#32) ∧ decode 0x6030#16 6#32 = .instr (.wrTxlen 6#32) ∧
    decode 0x6034#16 7#32 = .instr (.wrTxremain 7#32) ∧ decode 0x6038#16 8#32 = .instr (.wrTxcount 8#32) ∧
    decode 0x603C#16 9#32 = .instr (.wrTxfree 9#32) := by decide

theorem test_decode_events :
    decode 0x8000#16 0#32 = .instr .evClk ∧ decode 0x9148#16 0#32 = .instr (.evRx true 0x48#8) ∧
    decode 0x91FF#16 0#32 = .instr (.evRx true 0xFF#8) ∧ decode 0x9000#16 0#32 = .instr (.evRx false 0#8) ∧
    decode 0xA000#16 0#32 = .instr .evReset := by decide

/-- Vectors B-1 to B-9. -/
theorem test_bus_error_causes :
    decode 0x0008#16 0#32 = .busError .sizeNarrow ∧ decode 0x1008#16 0#32 = .busError .sizeNarrow ∧
    decode 0x3008#16 0#32 = .busError .sizeReserved ∧ decode 0x200A#16 0#32 = .busError .misaligned ∧
    decode 0x2044#16 0#32 = .busError .unmapped ∧ decode 0x2FFC#16 0#32 = .busError .unmapped ∧
    decode 0x3009#16 0#32 = .busError .sizeReserved ∧ decode 0x0045#16 0#32 = .busError .sizeNarrow ∧
    decode 0x6044#16 1#32 = .busError .unmapped := by decide

/-- Bit 16 of a table word is bit 0 of `wdata`; a shorter row has zeros above it. -/
theorem test_table_words :
    decodeTableWord 48 0x00000020_6004 = some (.wrStatus 0x20#32) ∧ decodeTableWord 16 0x00000020_6004 = some (.wrStatus 0#32) ∧
    decodeTableWord 16 0x9141 = some (.evRx true 0x41#8) ∧ decodeTableWord 16 0x2044 = none ∧
    decodeTableWord 16 0xC000 = none := by decide

theorem test_length_from_class :
    Desc.lengthBits 0x6000#16 = 48 ∧ Desc.lengthBits 0x2000#16 = 16 ∧ Desc.lengthBits 0x8000#16 = 16 := by decide

/-! ### What is ill formed is refused -/

/-- The refused descriptors of section 2.9, one for each check of `Desc.isReserved`. -/
theorem test_ill_formed_descriptors_refused :
    Desc.isReserved 0xC000#16 = true ∧ decode 0xC000#16 0#32 = .refused .reservedClass ∧
    Desc.isReserved 0xB000#16 = true ∧ decode 0xB000#16 0#32 = .refused .reservedEvent ∧
    Desc.isReserved 0x8001#16 = true ∧ decode 0x8001#16 0#32 = .refused .clkArgument ∧
    Desc.isReserved 0x9200#16 = true ∧ decode 0x9200#16 0#32 = .refused .rxArgument ∧
    Desc.isReserved 0xA001#16 = true ∧ decode 0xA001#16 0#32 = .refused .resetArgument ∧
    Desc.isReserved 0x2008#16 = false := by decide

theorem test_ill_formed_request : Request.wellFormed ⟨0xFFFF#16, 0#32, true⟩ = false := by decide

/-- One illegal choice for each bound of the parameters (U8). -/
theorem test_illegal_parameters_refused :
    Config.build? 0 5 2 0 = none ∧ Config.build? 17 5 2 0 = none ∧ Config.build? 5 0 2 0 = none ∧
    Config.build? 5 17 2 0 = none ∧ Config.build? 5 5 1 0 = none ∧ Config.build? 5 5 9 0 = none ∧
    Config.build? 5 5 2 0x800 = none ∧ Config.build? 5 5 2 0 = some Config.reference := by decide

/-! ### Small states -/

/-- `RX_AW = TX_AW = 3`, `SYNC_STAGES = 2`. -/
def cfg3 : Config := ⟨3, 3, 2, 0, by decide⟩

/-- `RX_AW = TX_AW = SYNC_STAGES = 3`. -/
def cfg333 : Config := ⟨3, 3, 3, 0, by decide⟩

def small : State := State.resetFor cfg3

/-- The state after an operation (every operation has one). -/
def after (i : Instr) (s : State) : State :=
  match exec i s with
  | .next t => t
  | .fault _ => s
  | .refused _ => s

/-- The word a read answers with `err = 0`. -/
def answer (i : Instr) (s : State) : Option Word :=
  match (after i s).resp with
  | some ⟨v, false⟩ => some v
  | some ⟨_, true⟩ => none
  | none => none

/-- `rx_wsync = w`, `rx_rptr = r`, with `total` captures and `read` bytes read. -/
def receiving (w r total read : Nat) : State :=
  { State.reset with rxSync := [bin2gray w, bin2gray w], rxRptr := r, wTotal := total, rTotal := read }

/-- Sending phase: the block at offset 6 of length 2, one byte sent; two more bytes pending at 0 and 1. RX has three
captures, the third not yet crossed, and one byte read. -/
def busy : State :=
  { small with
    rxmem := [(0, 0x41#8), (1, 0x42#8), (2, 0x43#8)], rxRemain := 5, rxWgray := 2, rxenSync := [true, true],
    ctrlRxen := true, rxSync := [2, 3], rxRptr := 1, wTotal := 3, rTotal := 1,
    txmem := [(0, 0x49#8), (1, 0x4A#8), (6, 0x47#8), (7, 0x48#8)], txIns := 2, txExt := 6, txActive := true,
    txStart := 6, txLen := 2, txPtr := 7, txRem := 1, stTxack := true, txStream := [0x47#8] }

/-- `busy` after the last handshake of its block. -/
def done : State := { busy with txPtr := 8, txRem := 0, txStream := [0x47#8, 0x48#8] }

/-- `busy` with no block armed. -/
def pending : State := { busy with txActive := false, txStart := 0, txLen := 0, txPtr := 0, txRem := 0, txStream := [] }

/-! ### Gray code and ring arithmetic (section 2.1, 2.6) -/

theorem test_gray_table :
    (List.range 8).map bin2gray = [0b000, 0b001, 0b011, 0b010, 0b110, 0b111, 0b101, 0b100] ∧
    [0b000, 0b001, 0b011, 0b010, 0b110, 0b111, 0b101, 0b100].map (gray2bin 3) = List.range 8 ∧
    bin2gray 8 = 0b01100 ∧ bin2gray 31 = 0b10000 := by decide

theorem test_runs_and_wraps :
    runLength 8 0 5 = 5 ∧ runLength 8 6 2 = 2 ∧ runLength 8 7 0 = 1 ∧ runLength 8 1 0 = 7 ∧ runLength 8 5 6 = 1 ∧
    wrapSub 8 1 3 = 6 := by decide

/-! ### Control (section 2.8) -/

/-- X-1. -/
theorem test_status_after_reset : answer .rdStatus State.reset = some 0x00000004#32 := by decide

/-- X-2, X-3. -/
theorem test_ctrl_keeps_two_bits :
    answer .rdCtrl (after (.wrCtrl 0xFFFFFFFF#32) small) = some 0x3#32 ∧
    answer .rdCtrl (after (.wrCtrl 0x4#32) small) = some 0x0#32 := by decide

/-- X-4, X-5, X-6. -/
theorem test_status_w1c :
    (after (.wrStatus 0x20#32) { small with stTc := true }).stTc = false ∧
    (after (.wrStatus 0x1F#32) { small with stTc := true }).stTc = true ∧
    (after (.wrStatus 0x20#32) done).stTc = true := by decide

/-- X-7. -/
theorem test_tcie_raises_irq : irqO (after (.wrCtrl 0x2#32) { small with stTc := true }) = true := by decide

/-- X-8, X-9. -/
theorem test_param :
    answer .rdParam State.reset = some 0x01020505#32 ∧ answer .rdParam (State.resetFor cfg333) = some 0x01030303#32 := by
  decide

/-- X-10. -/
theorem test_write_rxextract_ignored :
    answer .rdRxextract (after (.wrRxextract 5#32) { small with rxRptr := 2 }) = some 2#32 := by decide

/-- R157: E-6. -/
theorem test_idle_edge_ends_pulse : (after .evClk { small with cplPulse := true }).cplPulse = false := by decide

/-- R290: storage survives, the cursors and the enable do not. -/
theorem test_reset_event :
    Memory.read? (after .evReset busy).txmem 6 = none ∧ (after .evReset busy).txIns = 0 ∧
    (after .evReset busy).rxRemain = 8 ∧ (after .evReset busy).ctrlRxen = false := by decide

/-! ### Receive (sections 2.2, 2.3, 2.4) -/

/-- C-1. -/
theorem test_capture_first :
    let t := after (.evRx true 0x41#8) { small with rxenSync := [true, true] }
    Memory.read? t.rxmem 0 = some 0x41#8 ∧ t.rxRemain = 7 ∧ rxWptr t = 1 ∧ t.rxWgray = 0b001 ∧ t.wTotal = 1 := by decide

/-- C-2, C-4, C-7. -/
theorem test_capture_reload_and_gate :
    (after (.evRx true 0x5A#8) { small with rxRemain := 1, rxenSync := [true, true] }).rxRemain = 8 ∧
    (after (.evRx true 0x33#8) { small with rxenSync := [true, false], ctrlRxen := true }).rxRemain = 8 ∧
    (after (.evRx true 0x77#8) { small with rxenSync := [true, true] }).rxenSync = [false, true] := by decide

/-- S-1, S-2. -/
theorem test_pointer_crosses :
    let s : State := { State.reset with rxWgray := 0b00010 }
    (after .evClk s).rxSync = [0b00010, 0] ∧ rxWsync (after .evClk s) = 0 ∧
    rxWsync (after .evClk (after .evClk s)) = 3 := by decide

/-- R-1. -/
theorem test_rxdata_empty :
    answer .rdRxdata (receiving 5 5 5 5) = some 0xFFFFFFFF#32 ∧ (after .rdRxdata (receiving 5 5 5 5)).rxRptr = 5 := by
  decide

/-- R-2: 0xFF is not the sentinel, and the cursor wraps. -/
theorem test_rxdata_ff_is_no_sentinel :
    let s : State := { small with rxRptr := 7, rxSync := [0, 0], rxmem := [(7, 0xFF#8)], wTotal := 8, rTotal := 7 }
    answer .rdRxdata s = some 0x000000FF#32 ∧ (after .rdRxdata s).rxRptr = 0 := by decide

/-- R-8: an overrun pop draws; the byte is not looked at. -/
theorem test_rxdata_overrun_draws :
    (after .rdRxdata (receiving 2 0 34 0)).rxRptr = 1 ∧ (after .rdRxdata (receiving 2 0 34 0)).draws = 1 := by decide

/-- R-4, R-6. -/
theorem test_rxcount_rxcursor :
    answer .rdRxcount (receiving 8 15 40 15) = some 25#32 ∧ answer .rdRxcursor (receiving 3 0 3 0) = some 3#32 := by decide

/-- R-5, R-7. -/
theorem test_rxremain_rxextract :
    answer .rdRxremain (receiving 0 0 0 0) = some 32#32 ∧ answer .rdRxremain (receiving 1 0 1 0) = some 31#32 ∧
    answer .rdRxremain (receiving 31 0 31 0) = some 1#32 ∧ answer .rdRxextract (receiving 3 1 3 1) = some 1#32 := by decide

/-- R-9 and R-10: a narrow read and a write of RXDATA do not pop. -/
theorem test_rxdata_no_pop :
    (match step { receiving 3 0 3 0 with script := [⟨0x0008#16, 0#32, false⟩] } with
      | .next t => decide (t.resp = some ⟨0#32, true⟩ ∧ t.rxRptr = 0 ∧ t.busErrors = [⟨.sizeNarrow, 0x0008#16⟩])
      | .fault _ => false
      | .refused _ => false) = true ∧
    (after (.wrRxdata 5#32) (receiving 3 0 3 0)).rxRptr = 0 := by decide

/-- R-11. -/
theorem test_status_rxfull : answer .rdStatus (receiving 31 0 31 0) = some 0x00000007#32 := by decide

/-! ### Transmit (sections 2.5, 2.6, 2.7) -/

/-- T-1, T-2. -/
theorem test_txdata_boundary :
    (after (.wrTxdata 0x55#32) { small with txIns := 6, txExt := 7, stTxack := true }).stTxack = false ∧
    (after (.wrTxdata 0x55#32) { small with txIns := 6, txExt := 7 }).txIns = 6 ∧
    (after (.wrTxdata 0x55#32) { small with txIns := 6 }).txIns = 7 ∧
    txFull (after (.wrTxdata 0x55#32) { small with txIns := 6 }) = true := by decide

/-- T-3, T-4. -/
theorem test_txdata_byte_and_old_extract :
    Memory.read? (after (.wrTxdata 0x1AB#32) { small with txIns := 7, txExt := 3 }).txmem 7 = some 0xAB#8 ∧
    (after (.wrTxdata 0x1AB#32) { small with txIns := 7, txExt := 3 }).txIns = 0 ∧
    (after (.wrTxdata 0x99#32) { small with txIns := 7, txActive := true, txLen := 7, txPtr := 7 }).stTxack = false ∧
    (after (.wrTxdata 0x99#32) { small with txIns := 7, txActive := true, txLen := 7, txPtr := 7 }).txExt = 7 := by decide

/-- T-7, K-6. -/
theorem test_write_only_reads :
    answer .rdTxdata busy = some 0#32 ∧ answer .rdTxkick pending = some 0#32 ∧
    (after .rdTxkick pending).txActive = false := by decide

/-- K-1, K-2. -/
theorem test_kick_arms_or_not :
    let t := after (.wrTxkick 0#32) { small with txExt := 6, txIns := 2 }
    t.txActive = true ∧ t.txStart = 6 ∧ t.txLen = 2 ∧ t.txPtr = 6 ∧ t.txRem = 2 ∧
    (after (.wrTxkick 0#32) { small with txExt := 4, txIns := 4 }).txActive = false := by decide

/-- K-4: a kick while sending does nothing. -/
theorem test_kick_while_sending : (after (.wrTxkick 0#32) busy).txLen = 2 ∧ (after (.wrTxkick 0#32) busy).txPtr = 7 := by
  decide

/-- E-1, E-2. -/
theorem test_handshake :
    (after .evClk { busy with txReadyI := true }).txPtr = 8 ∧ (after .evClk { busy with txReadyI := true }).txRem = 0 ∧
    (after .evClk { busy with txReadyI := true }).txStream = [0x47#8, 0x48#8] ∧ (after .evClk busy).txPtr = 7 := by decide

/-- E-3, E-4. -/
theorem test_completion :
    let idle := after .evClk { small with txActive := true, txExt := 6, txStart := 6, txLen := 2, txPtr := 8, txIns := 0 }
    let armed := after .evClk { small with txActive := true, txExt := 6, txStart := 6, txLen := 2, txPtr := 8, txIns := 3 }
    idle.txExt = 0 ∧ idle.txActive = false ∧ idle.stTc = true ∧ idle.cplPulse = true ∧
    armed.txExt = 0 ∧ armed.txActive = true ∧ armed.txLen = 3 ∧ armed.txStart = 0 := by decide

theorem test_transmit_reads :
    answer .rdTxinsert busy = some 2#32 ∧ answer .rdTxextract busy = some 6#32 ∧ answer .rdTxptr done = some 8#32 ∧
    answer .rdTxlen busy = some 2#32 ∧ answer .rdTxremain busy = some 1#32 ∧ answer .rdTxcount busy = some 4#32 ∧
    answer .rdTxfree busy = some 3#32 := by decide

theorem test_ignored_writes :
    [Instr.wrRxcursor 9#32, .wrRxremain 9#32, .wrRxcount 9#32, .wrTxinsert 9#32, .wrTxextract 9#32, .wrTxptr 9#32,
      .wrTxlen 9#32, .wrTxremain 9#32, .wrTxcount 9#32, .wrTxfree 9#32, .wrParam 9#32].all
      (fun i => decide (after i pending = { after .evClk pending with resp := some ⟨0#32, false⟩ })) = true := by decide

/-! ### Step -/

theorem test_step_runs_table_word :
    (match step (State.reset.withFetchWord 48 0x00000003_6000) with
      | .next t => t.ctrlRxen && t.ctrlTcie
      | .fault _ => false
      | .refused _ => false) = true := by decide

theorem test_step_refuses :
    (match step State.reset with
      | .next _ => false
      | .fault _ => false
      | .refused r => decide (r = .endOfScript)) = true ∧
    (match step (State.reset.withFetchWord 16 0xC000) with
      | .next _ => false
      | .fault _ => false
      | .refused r => decide (r = .reservedDescriptor .reservedClass)) = true := by decide

/-- R135: `putc` and `write` expand as the table says. -/
theorem test_expansions :
    expandPseudo cfg3 (.putc 0x55#8) = [.wr .txdata 0x55#32, .rd .status, .wr .txkick 0#32] ∧
    expandPseudo cfg333 .waitSync = [.clk, .clk, .clk] ∧
    expandWrite [1#8, 2#8, 3#8] 2 = [.rd .txfree, .wr .txdata 1#32, .wr .txdata 2#32, .wr .txkick 0#32] ∧
    expandWrite [1#8] 0 = [.rd .txfree] := by decide

/-! ### Sound states, for the witnesses -/

theorem busy_inv : busy.Inv where
  widths := by constructor <;> decide
  storage := by constructor <;> decide
  receive := by
    constructor
    case history => exact ⟨[3, 2], by decide, by decide, by decide⟩
    all_goals decide
  transmit := by constructor <;> decide
  written := by constructor <;> decide

theorem done_inv : done.Inv where
  widths := by constructor <;> decide
  storage := by constructor <;> decide
  receive := by
    constructor
    case history => exact ⟨[3, 2], by decide, by decide, by decide⟩
    all_goals decide
  transmit := by constructor <;> decide
  written := by constructor <;> decide

theorem pending_inv : pending.Inv where
  widths := by constructor <;> decide
  storage := by constructor <;> decide
  receive := by
    constructor
    case history => exact ⟨[3, 2], by decide, by decide, by decide⟩
    all_goals decide
  transmit := by constructor <;> decide
  written := by constructor <;> decide

theorem small_inv : small.Inv where
  widths := by constructor <;> decide
  storage := by constructor <;> decide
  receive := by
    constructor
    case history => exact ⟨[0, 0], by decide, by decide, by decide⟩
    all_goals decide
  transmit := by constructor <;> decide
  written := by constructor <;> decide

/-- A state with a script of its own. -/
def scripted (s : State) (reqs : List Request) : State := { s with script := reqs }

/-- `pending` after both stages have seen the third capture. -/
def settled : State := { pending with rxSync := [2, 2] }

theorem settled_inv : settled.Inv where
  widths := by constructor <;> decide
  storage := by constructor <;> decide
  receive := by
    constructor
    case history => exact ⟨[3, 3], by decide, by decide, by decide⟩
    all_goals decide
  transmit := by constructor <;> decide
  written := by constructor <;> decide

/-! ### Witnesses: for every statement with hypotheses, inputs that meet them, at the boundaries of each clause -/

theorem witness_DecodeInvertsEncode :
    (Instr.evRx true 0xFF#8).wellFormed = true ∧ decode 0x91FF#16 0#32 = .instr (.evRx true 0xFF#8) ∧
    decode 0x6040#16 0xFFFFFFFF#32 = .instr (.wrParam 0xFFFFFFFF#32) := by decide

/-- Both ends of every range, and its neighbours outside. -/
theorem witness_RefusedDescriptorsAreTheReservedOnes :
    [0xC000#16, 0xFFFF#16].all (fun d => decode d 0#32 == .refused .reservedClass) = true ∧
    [0xB000#16, 0xBFFF#16].all (fun d => decode d 0#32 == .refused .reservedEvent) = true ∧
    [0x8001#16, 0x8FFF#16].all (fun d => decode d 0#32 == .refused .clkArgument) = true ∧
    [0x9200#16, 0x9FFF#16].all (fun d => decode d 0#32 == .refused .rxArgument) = true ∧
    [0xA001#16, 0xAFFF#16].all (fun d => decode d 0#32 == .refused .resetArgument) = true ∧
    [0x7FFF#16, 0x8000#16, 0x9000#16, 0x91FF#16, 0xA000#16].all (fun d => !(Desc.isReserved d)) = true ∧
    (small.withFetchWord 16 0xB000).script = ⟨0xB000#16, 0#32, false⟩ :: [] := by decide

/-- The first and last descriptor of each cause. -/
theorem witness_BusErrorCausesAndTheirPriority :
    [0x3000#16, 0x3FFF#16, 0x7000#16, 0x7FFF#16].all (fun d => decode d 0#32 == .busError .sizeReserved) = true ∧
    [0x0000#16, 0x1FFF#16, 0x4000#16, 0x5FFF#16].all (fun d => decode d 0#32 == .busError .sizeNarrow) = true ∧
    [0x2001#16, 0x2FFF#16, 0x6001#16, 0x6FFF#16].all (fun d => decode d 0#32 == .busError .misaligned) = true ∧
    [0x2044#16, 0x2FFC#16, 0x6044#16, 0x6FFC#16].all (fun d => decode d 0#32 == .busError .unmapped) = true ∧
    decode 0x2040#16 0#32 = .instr .rdParam ∧
    (small.withFetchWord 16 0x2044).script = ⟨0x2044#16, 0#32, false⟩ :: [] := by decide

theorem witness_StepRunsTheDecodedOperation :
    (small.withFetchWord 16 0x2004).script = ⟨0x2004#16, 0#32, false⟩ :: [] ∧
    decode 0x2004#16 0#32 = .instr .rdStatus ∧ Instr.rdStatus.wellFormed = true ∧
    decodeTableWord 48 0x00000020_6004 = some (.wrStatus 0x20#32) := by decide

theorem witness_BusErrorStepOnlyAnswersAndRecords :
    (small.withFetchWord 16 0x3009).script = ⟨0x3009#16, 0#32, false⟩ :: [] ∧
    [0x0008#16, 0x200A#16, 0x2044#16, 0x3009#16].map (fun d => decode d 0#32) =
      [.busError .sizeNarrow, .busError .misaligned, .busError .unmapped, .busError .sizeReserved] ∧
    (0x3009#16).toNat < 0x8000 ∧ Desc.size 0x3009#16 ≠ 0b10#2 := by decide

theorem witness_StepStopsOnlyAtReservedOrEnd :
    (small.withFetchWord 16 0x2044).script = ⟨0x2044#16, 0#32, false⟩ :: [] ∧ Desc.isReserved 0x2044#16 = false ∧
    small.script = [] := by decide

theorem witness_widthsOk_and_transmitOk :
    busy.widthsOk ∧ done.transmitOk ∧ txDone done = true ∧ pending.transmitOk ∧ pending.txActive = false :=
  ⟨busy_inv.widths, done_inv.transmit, by decide, pending_inv.transmit, by decide⟩

/-- The premises inside ReceiveReadsAnswer: a position 0 and one that is not. -/
theorem witness_ReceiveReadsAnswer :
    busy.widthsOk ∧ rxWsync busy ≠ 0 ∧ small.widthsOk ∧ rxWsync small = 0 :=
  ⟨busy_inv.widths, by decide, by constructor <;> decide, by decide⟩

/-- The premises inside TransmitReadsAnswer. -/
theorem witness_TransmitReadsAnswer :
    busy.widthsOk ∧ done.transmitOk ∧ txDone done = true ∧ pending.transmitOk ∧ pending.txActive = false :=
  witness_widthsOk_and_transmitOk

/-- The three cases of WriteStatusClearsTcUnlessSet. -/
theorem witness_WriteStatusClearsTcUnlessSet :
    (done.txActive = true ∧ done.txRem = 0) ∧ ¬(busy.txActive = true ∧ busy.txRem = 0) ∧
    (0x20#32).getLsbD 5 = true ∧ (0x1F#32).getLsbD 5 = false := by decide

/-- Empty; not empty at the last unread count that is no overrun; not empty and at the first that is. -/
theorem witness_ReadRxdataPopsOrAnswersSentinel :
    rxWsync (receiving 5 5 5 5) = (receiving 5 5 5 5).rxRptr ∧
    rxWsync (receiving 31 0 31 0) ≠ (receiving 31 0 31 0).rxRptr ∧
    (receiving 31 0 31 0).wTotal - (receiving 31 0 31 0).rTotal ≤ (receiving 31 0 31 0).cfg.rxMask ∧
    rxWsync (receiving 2 0 32 0) ≠ (receiving 2 0 32 0).rxRptr ∧
    (receiving 2 0 32 0).cfg.rxMask < (receiving 2 0 32 0).wTotal - (receiving 2 0 32 0).rTotal := by decide

theorem witness_OverrunPopAnswersTheFreeByte :
    rxWsync (receiving 2 0 32 0) ≠ (receiving 2 0 32 0).rxRptr ∧
    (receiving 2 0 32 0).cfg.rxMask < (receiving 2 0 32 0).wTotal - (receiving 2 0 32 0).rTotal ∧
    (receiving 31 0 31 0).wTotal - (receiving 31 0 31 0).rTotal ≤ (receiving 31 0 31 0).cfg.rxMask := by decide

theorem witness_IdleClockEdgeDoesOnlyTheEdgeParts : settled.txActive = false ∧ settled.rxSettled :=
  ⟨by decide, by unfold State.rxSettled; decide⟩

/-- A capture at the reload and above it, and the two ways not to capture. -/
theorem witness_ReceiveEdgeCaptures :
    busy.rxenSync[busy.cfg.syncStages - 1]? = some true ∧ 1 ≤ busy.rxRemain ∧ busy.rxRemain ≤ busy.cfg.rxCap ∧
    busy.rxRemain ≠ 1 ∧
    (let s : State := { busy with rxRemain := 1 }
     s.rxenSync[s.cfg.syncStages - 1]? = some true ∧ s.rxRemain = 1) ∧
    small.rxenSync[small.cfg.syncStages - 1]? ≠ some true := by decide

theorem witness_WriteTxdataAcceptsOrDrops :
    (let s : State := { small with txIns := 7, txExt := 0 }
     (s.txIns : Int) = ((s.txExt : Int) - 1) % s.cfg.txCap) ∧
    (busy.txIns : Int) ≠ ((busy.txExt : Int) - 1) % busy.cfg.txCap := by decide

/-- Idle with pending bytes on both sides of the wrap, idle and empty, and the phases in which a kick does nothing. -/
theorem witness_WriteTxkickArmsOnlyWhenIdle :
    (pending.txActive = false ∧ pending.txIns ≠ pending.txExt ∧ pending.txIns ≤ pending.txExt) ∧
    (let s : State := { small with txIns := 1 }
     s.txActive = false ∧ s.txIns ≠ s.txExt ∧ s.txExt < s.txIns) ∧
    (small.txActive = false ∧ small.txIns = small.txExt) ∧ txValidO busy = true ∧ txDone done = true := by decide

theorem witness_SynchronizerShiftsAtEveryClkEdge : isClkEdge .rdRxdata = true ∧ 0 < busy.rxSync.length := by decide

/-- A byte taken, a byte not taken, no byte offered. -/
theorem witness_HandshakeAtEveryClkEdge :
    isClkEdge .evClk = true ∧ busy.txActive = true ∧ busy.txRem ≠ 0 ∧ busy.txReadyI = false ∧
    ({ busy with txReadyI := true } : State).txReadyI = true ∧ txDataO busy = some 0x48#8 ∧ txValidO small = false := by
  decide

/-- Completion to idle, completion with a re-arm, and no completion. -/
theorem witness_CompletionStepAtEveryClkEdge :
    isClkEdge (.wrStatus 0x20#32) = true ∧ done.txActive = true ∧ done.txRem = 0 ∧
    done.txPtr % done.cfg.txCap ≠ done.txIns ∧
    (let s : State := { done with txIns := 0 }
     s.txActive = true ∧ s.txRem = 0 ∧ s.txPtr % s.cfg.txCap = s.txIns) ∧
    ¬(busy.txActive = true ∧ busy.txRem = 0) := by decide

theorem witness_NoSpuriousCompletion :
    isClkEdge (.wrTxkick 0#32) = true ∧ small.txActive = false ∧ small.txIns = small.txExt ∧ pending.txActive = false := by
  decide

/-- Clk edges, a capture edge and a bus error, all with `tx_ready_i = 0`. -/
theorem witness_StalledSerializerNeverCompletes :
    let reqs : List Request := [⟨0x8000#16, 0#32, false⟩, ⟨0x6020#16, 0#32, false⟩, ⟨0x9101#16, 0#32, false⟩, ⟨0x3000#16, 0#32, false⟩]
    busy.txActive = true ∧ busy.txRem ≠ 0 ∧ (scripted busy reqs).script = reqs ++ [] ∧
    ∀ r ∈ reqs, r.txReady = false ∧ Desc.isReserved r.desc = false ∧ r.desc ≠ 0xA000#16 := by decide

/-- Every premise of the clauses of EachFieldHasOneWriter can be met. -/
theorem witness_EachFieldHasOneWriter :
    (after (.evRx true 1#8) busy).rxRemain ≠ busy.rxRemain ∧
    Memory.read? (after (.evRx true 1#8) busy).rxmem 3 ≠ Memory.read? busy.rxmem 3 ∧
    (after .rdRxdata busy).rxRptr ≠ busy.rxRptr ∧ (after (.wrTxdata 1#32) busy).txIns ≠ busy.txIns ∧
    Memory.read? (after (.wrTxdata 1#32) busy).txmem 2 ≠ Memory.read? busy.txmem 2 ∧
    (after .evClk done).txExt ≠ done.txExt ∧ (after (.wrCtrl 2#32) busy).ctrlRxen ≠ busy.ctrlRxen ∧
    (after (.wrStatus 0x20#32) { busy with stTc := true }).stTc = false ∧
    (done.stTc = false ∧ (after .evClk done).stTc = true) ∧
    (after (.wrTxdata 1#32) small).stTxack ≠ small.stTxack := by decide

theorem witness_exec_answers_next : exec .rdRxdata busy = .next (after .rdRxdata busy) := rfl

theorem witness_ParametersNeverChange : ∃ t, step (busy.withFetchWord 16 0x2008) = .next t := ⟨_, rfl⟩

/-- A step that answers an error, and one that does not. -/
theorem witness_ErrorRecordIsSticky :
    (∃ t, step (busy.withFetchWord 16 0x0008) = .next t ∧ t.resp = some ⟨0#32, true⟩) ∧
    ∃ t, step (busy.withFetchWord 16 0x8000) = .next t ∧ ∀ v, t.resp ≠ some ⟨v, true⟩ :=
  ⟨⟨_, rfl, rfl⟩, ⟨_, rfl, fun _ h => nomatch h⟩⟩

/-- A rise at a completion, an accepted byte, and an operation that leaves the free space. -/
theorem witness_FreeSpaceGrowsOnlyAtCompletion :
    (done.widthsOk ∧ done.transmitOk ∧ exec .evClk done = .next (after .evClk done) ∧
      txFree done < txFree (after .evClk done)) ∧
    (busy.widthsOk ∧ busy.transmitOk ∧ txDone busy = false ∧ txFull busy = false) ∧ Instr.evClk ≠ .evReset :=
  ⟨⟨done_inv.widths, done_inv.transmit, rfl, by decide⟩, ⟨busy_inv.widths, busy_inv.transmit, by decide, by decide⟩,
    by decide⟩

/-- As many writes as there is room for, the serializer taking bytes at some of the edges. -/
theorem witness_WriteRunWithinFreeSpaceIsAccepted :
    let ws : List (Word × Bool) := [(1#32, true), (2#32, false), (3#32, true)]
    (scripted busy (ws.map fun p => ⟨0x601C#16, p.1, p.2⟩)).Inv ∧ ws.length = txFree busy ∧ ws ≠ [] :=
  ⟨inv_withScript busy _ busy_inv, by decide, by decide⟩

theorem witness_ClkDomainReadsNoReceiveCounter :
    isClkEdge .rdStatus = true ∧ exec .rdStatus busy = .next (after .rdStatus busy) ∧ Instr.rdStatus ≠ .rdRxdata :=
  ⟨by decide, rfl, by decide⟩

/-- Two states that differ in the extract cursor only, among much else. -/
theorem witness_CaptureIgnoresTheConsumer :
    let u : State := { busy with rxRptr := 2, rTotal := 2, txIns := 5, stTc := true }
    u.cfg = busy.cfg ∧ u.rxmem = busy.rxmem ∧ u.rxRemain = busy.rxRemain ∧ u.rxWgray = busy.rxWgray ∧
    u.rxenSync = busy.rxenSync ∧ u.wTotal = busy.wTotal ∧ u.ctrlRxen = busy.ctrlRxen ∧ u ≠ busy := by decide

/-- As many edges as there are stages, and one more; one of them a bus error. -/
theorem witness_ProducerPositionCrossesInSyncStages :
    let reqs : List Request := [⟨0x8000#16, 0#32, true⟩, ⟨0x2045#16, 0#32, false⟩, ⟨0x2008#16, 0#32, true⟩]
    (scripted busy reqs).Inv ∧ (∀ r ∈ reqs, isClkRequest r = true) ∧ busy.cfg.syncStages ≤ reqs.length ∧
    (reqs.take 2).length = busy.cfg.syncStages ∧ rxWsync busy ≠ rxWptr busy :=
  ⟨inv_withScript busy _ busy_inv, by decide, by decide, by decide, by decide⟩

theorem witness_EnableCrossesInSyncStages :
    let reqs : List Request := [⟨0x91FF#16, 0#32, false⟩, ⟨0x9000#16, 0#32, true⟩]
    (scripted busy reqs).rxenSync.length = busy.cfg.syncStages ∧ reqs.length = busy.cfg.syncStages ∧
    ∀ r ∈ reqs, isRxRequest r = true := by decide

/-- The smallest width, and the wrap of a larger one. -/
theorem witness_GrayCodeChangesOneBitAndDecodes : (1 ≤ 1 ∧ 1 < 2 ^ 1) ∧ (1 ≤ 5 ∧ 31 < 2 ^ 5) ∧ 0 < 2 ^ (0 + 1) := by decide

theorem witness_EmptyAndFullAreCountsZeroAndMask : busy.widthsOk := busy_inv.widths

theorem witness_VisibleCountNeverExceedsTrueCount : busy.Inv ∧ rxCount busy < busy.wTotal - busy.rTotal :=
  ⟨busy_inv, by decide⟩

theorem witness_EveryStepKeepsTheInvariant :
    (busy.withFetchWord 16 0x9141).Inv ∧ ∃ t, step (busy.withFetchWord 16 0x9141) = .next t :=
  ⟨inv_withScript busy _ busy_inv, ⟨_, rfl⟩⟩

/-- An accepted write, and the edge of a bus error at which a byte leaves. -/
theorem witness_TransmitRingIsFifo :
    let w : Request := ⟨0x601C#16, 9#32, true⟩
    let e : Request := ⟨0x3000#16, 0#32, true⟩
    ((scripted busy [w]).Inv ∧ w.desc ≠ 0xA000#16 ∧ txAcceptedBy w busy = [9#8] ∧ ∃ t, step (scripted busy [w]) = .next t) ∧
    ((scripted busy [e]).Inv ∧ e.desc ≠ 0xA000#16 ∧ ∃ t, step (scripted busy [e]) = .next t ∧ t.txPtr = 8) :=
  ⟨⟨inv_withScript busy _ busy_inv, by decide, by decide, ⟨_, rfl⟩⟩,
    ⟨inv_withScript busy _ busy_inv, by decide, ⟨_, rfl, by decide⟩⟩⟩

/-- A capture, a pop and a read of a ring that looks empty, all without overrun. -/
theorem witness_ReceiveRingIsFifo :
    let c : Request := ⟨0x9109#16, 0#32, false⟩
    let p : Request := ⟨0x2008#16, 0#32, false⟩
    (busy.Inv ∧ small.Inv) ∧
    (busy.noOverrun ∧ c.desc ≠ 0xA000#16 ∧ c.desc ≠ 0x2008#16 ∧ rxCapturedBy c busy = [9#8] ∧
      ∃ t, step (scripted busy [c]) = .next t ∧ t.noOverrun) ∧
    (p.desc ≠ 0xA000#16 ∧ rxEmpty busy = false ∧ ∃ t, step (scripted busy [p]) = .next t ∧ t.noOverrun) ∧
    (small.noOverrun ∧ rxEmpty small = true ∧ ∃ t, step (scripted small [p]) = .next t ∧ t.noOverrun) := by
  refine ⟨⟨busy_inv, small_inv⟩, ⟨?_, by decide, by decide, by decide, _, rfl, ?_⟩, ⟨by decide, by decide, _, rfl, ?_⟩,
    ⟨?_, by decide, _, rfl, ?_⟩⟩ <;> unfold State.noOverrun <;> decide

theorem witness_OnlyWrittenBytesAreRead : busy.Inv ∧ txValidO busy = true ∧ rxEmpty busy = false ∧ busy.noOverrun :=
  ⟨busy_inv, by decide, by decide, by unfold State.noOverrun; decide⟩

theorem witness_UnsentBytesAreNeverOverwritten :
    busy.Inv ∧ Instr.wrTxdata 9#32 ≠ .evReset ∧ exec (.wrTxdata 9#32) busy = .next (after (.wrTxdata 9#32) busy) ∧
    3 < txCount busy := ⟨busy_inv, by decide, rfl, by decide⟩

theorem witness_InterruptIsRaisedAndCleared :
    isClkEdge .evClk = true ∧ (∀ v, Instr.evClk ≠ .wrCtrl v) ∧ done.txActive = true ∧ done.txRem = 0 ∧
    ({ done with ctrlTcie := true } : State).ctrlTcie = true ∧ ¬(busy.txActive = true ∧ busy.txRem = 0) ∧
    (0x20#32).getLsbD 5 = true := ⟨by decide, fun _ h => (nomatch h), by decide, by decide, rfl, by decide, by decide⟩

theorem witness_StorageWriteReadsBack : Memory.wf busy.txmem = true ∧ Memory.wf busy.rxmem = true := by decide

theorem witness_SettledCountIsTrueCountModCapacity : settled.Inv ∧ settled.rxSettled :=
  ⟨settled_inv, by unfold State.rxSettled; decide⟩

/-- The premises of the clauses on raw lines: each size, a misaligned offset, the first unmapped one. -/
theorem witness_AssemblerLinesNameTheirOperations :
    (0x003#12).toNat % 4 ≠ 0 ∧ (0x044#12).toNat % 4 = 0 ∧ 0x044 ≤ (0x044#12).toNat ∧
    (scripted busy [lineRequest true (.rd .txcount)]).script = lineRequest true (.rd .txcount) :: [] ∧
    (scripted busy [lineRequest false (.wr .ctrl 1#32)]).script = lineRequest false (.wr .ctrl 1#32) :: [] ∧
    (scripted busy [lineRequest true .clk]).script = lineRequest true .clk :: [] := by decide

/-- Words of raw lines, from R134 and R121. -/
theorem test_raw_lines :
    lineDesc (.rdRaw .h 0x006#12) = 0x1006#16 ∧ lineDesc (.wrRaw .x 0x040#12 5#32) = 0x7040#16 ∧
    assemble [⟨2, true, .clk⟩, ⟨1, false, .rx 0x48#8⟩] =
      [⟨0x8000#16, 0#32, true⟩, ⟨0x8000#16, 0#32, true⟩, ⟨0x9148#16, 0#32, false⟩] := by decide

/-- `busy` about to perform some lines, with `tx_ready_i` 1 at each edge. -/
def performing (s : State) (ls : List AsmLine) : State := scripted s (ls.map (lineRequest true))

theorem performing_willPerform (s : State) (ls : List AsmLine) : (performing s ls).willPerform ls [] :=
  ⟨ls.map (lineRequest true), by simp [performing, scripted], by simp [lineRequest, lineWords]⟩

theorem witness_PseudoInstructionsDoTheirWork :
    (∀ p : Pseudo, (performing busy (expandPseudo busy.cfg p)).willPerform (expandPseudo busy.cfg p) []) ∧
    (performing busy (expandPseudo busy.cfg .waitSync)).Inv ∧ txDone busy = false ∧ txFull busy = false ∧
    (let s : State := { busy with txIns := 5 }; txFull s = true) ∧ rxEmpty busy = false ∧ busy.noOverrun :=
  ⟨fun _ => performing_willPerform _ _, inv_withScript busy _ busy_inv, by decide, by decide, by decide, by decide,
    by unfold State.noOverrun; decide⟩

/-- More bytes than fit, and an empty ring. -/
theorem witness_WriteCallAcceptsWhatFits :
    let p : List Byte := [1#8, 2#8, 3#8, 4#8]
    (performing busy (expandWrite p (txFree busy))).Inv ∧
    (performing busy (expandWrite p (txFree busy))).willPerform (expandWrite p (txFree busy)) [] ∧
    writeResult p.length (txFree busy) = 3 ∧ txEmpty small = true ∧ small.Inv :=
  ⟨inv_withScript busy _ busy_inv, performing_willPerform _ _, by decide, by decide, small_inv⟩

end Sys2Proof.Tests
end

/-! What each operation can do, said once (`exec_cases`), and what follows from it for the parameters of the built block
(R12). -/

namespace Sys2Proof.Machine

/-- The transactions that do nothing but the edge parts and their answer: the reads without side effect (R94), and the
writes that are ignored (R156). -/
def isPlain : Instr → Bool
  | .rdRxdata | .wrCtrl _ | .wrStatus _ | .wrTxdata _ | .wrTxkick _ | .evClk | .evRx _ _ | .evReset => false
  | _ => true

/-- Everything one operation can do. Every operation answers a next state. -/
theorem exec_cases (i : Instr) (s : State) :
    (isPlain i = true ∧ ∃ v, exec i s = .next (respond v false (edgeParts s))) ∨
    (i = .rdRxdata ∧ exec i s = .next (respond (rxdataWord s) false (popRx s (edgeParts s)))) ∨
    (∃ w, i = .wrCtrl w ∧ exec i s = .next (respond 0#32 false (writeCtrl w (edgeParts s)))) ∨
    (∃ w, i = .wrStatus w ∧ exec i s = .next (respond 0#32 false (writeStatus w s (edgeParts s)))) ∨
    (∃ w, i = .wrTxdata w ∧ exec i s = .next (respond 0#32 false (writeTxdata w s (edgeParts s)))) ∨
    (∃ w, i = .wrTxkick w ∧ exec i s = .next (respond 0#32 false (kick s (edgeParts s)))) ∨
    (i = .evClk ∧ exec i s = .next (noResponse (edgeParts s))) ∨
    (∃ v b, i = .evRx v b ∧ exec i s = .next (rxEdge v b s)) ∨
    (i = .evReset ∧ exec i s = .next (resetEvent s)) := by
  cases i with
  | rdRxdata => exact .inr (.inl ⟨rfl, rfl⟩)
  | wrCtrl w => exact .inr (.inr (.inl ⟨w, rfl, rfl⟩))
  | wrStatus w => exact .inr (.inr (.inr (.inl ⟨w, rfl, rfl⟩)))
  | wrTxdata w => exact .inr (.inr (.inr (.inr (.inl ⟨w, rfl, rfl⟩))))
  | wrTxkick w => exact .inr (.inr (.inr (.inr (.inr (.inl ⟨w, rfl, rfl⟩)))))
  | evClk => exact .inr (.inr (.inr (.inr (.inr (.inr (.inl ⟨rfl, rfl⟩))))))
  | evRx v b => exact .inr (.inr (.inr (.inr (.inr (.inr (.inr (.inl ⟨v, b, rfl, rfl⟩)))))))
  | evReset => exact .inr (.inr (.inr (.inr (.inr (.inr (.inr (.inr ⟨rfl, rfl⟩)))))))
  | _ => exact .inl ⟨rfl, _, rfl⟩

/-! ### The parameters through each shared operation -/

@[simp] theorem popRx_cfg (pre post : State) : (popRx pre post).cfg = post.cfg := by
  rcases popRx_cases pre post with ⟨_, h⟩ | ⟨_, _, h⟩ | ⟨_, _, h⟩ <;> simp [h]

@[simp] theorem writeTxdata_cfg (v : Word) (pre post : State) : (writeTxdata v pre post).cfg = post.cfg := by
  rcases writeTxdata_cases v pre post with ⟨_, h⟩ | ⟨_, h⟩ <;> simp [h]

@[simp] theorem kick_cfg (pre post : State) : (kick pre post).cfg = post.cfg := by
  rcases kick_cases pre post with ⟨_, _, h⟩ | ⟨_, h⟩ <;> simp [h]

@[simp] theorem writeStatus_cfg (v : Word) (pre post : State) : (writeStatus v pre post).cfg = post.cfg := by
  rcases writeStatus_cases v pre post with ⟨_, _, h⟩ | ⟨_, h⟩ <;> simp [h]

@[simp] theorem rxEdge_cfg (v : Bool) (b : Byte) (s : State) : (rxEdge v b s).cfg = s.cfg := by
  rcases rxEdge_cases v b s with ⟨_, _, h⟩ | ⟨_, h⟩ <;> simp [h]

@[simp] theorem busErrorEdge_cfg (c : BusErrorCause) (d : Desc) (s : State) : (busErrorEdge c d s).cfg = s.cfg := by
  simp [busErrorEdge]

/-- No operation writes a parameter. -/
theorem exec_cfg (i : Instr) (s t : State) (h : exec i s = .next t) : t.cfg = s.cfg := by
  rcases exec_cases i s with ⟨_, v, e⟩ | ⟨_, e⟩ | ⟨w, _, e⟩ | ⟨w, _, e⟩ | ⟨w, _, e⟩ | ⟨w, _, e⟩ | ⟨_, e⟩ |
    ⟨v, b, _, e⟩ | ⟨_, e⟩ <;>
    · obtain rfl := Host.Outcome.next.inj (e.symm.trans h)
      simp

/-- Settles O28: an operation, or the edge of a bus error, and taking the request before it, write no parameter. -/
theorem parametersNeverChange : Obligations.ParametersNeverChange := by
  intro s t h
  rcases step_cases s with ⟨_, hr⟩ | ⟨r, rest, _, ⟨i, _, hi⟩ | ⟨c, _, hb⟩ | ⟨why, _, hr⟩⟩
  · simp [hr] at h
  · exact exec_cfg i (takeRequest r rest s) t (hi.symm.trans h)
  · obtain rfl := Host.Outcome.next.inj (hb.symm.trans h)
    simp
  · simp [hr] at h

end Sys2Proof.Machine

/-! The gray code of R13, bit by bit. -/

namespace Sys2Proof.Machine

/-! ### `gray2bin` -/

theorem gray2bin_lt (k g : Nat) : gray2bin k g < 2 ^ k := by
  induction k generalizing g with
  | zero => simp [gray2bin]
  | succ k ih =>
    have := ih (g >>> 1)
    simp only [gray2bin, Nat.pow_succ]
    omega

/-- The decoded number above its bit 0 is the decoding of the code above its bit 0, one bit narrower. -/
theorem testBit_gray2bin_succ (k g i : Nat) :
    (gray2bin (k + 1) g).testBit (i + 1) = (gray2bin k (g >>> 1)).testBit i := by
  rw [gray2bin, Nat.testBit_succ]
  congr 1
  omega

/-- The bit rule of R13 for every bit at once: above bit `k - 1` there is a 0, so the top bit is that of the code. -/
theorem testBit_gray2bin (k g i : Nat) (hi : i < k) :
    (gray2bin k g).testBit i = ((gray2bin k g).testBit (i + 1) ^^ g.testBit i) := by
  induction k generalizing g i with
  | zero => omega
  | succ k ih =>
    cases i with
    | zero =>
      rw [testBit_gray2bin_succ, gray2bin]
      simp only [Nat.testBit_zero]
      rcases Nat.mod_two_eq_zero_or_one (gray2bin k (g >>> 1)) with hu | hu <;>
        rcases Nat.mod_two_eq_zero_or_one g with hg | hg <;> simp [Nat.add_mod, hu, hg]
    | succ j =>
      rw [testBit_gray2bin_succ, testBit_gray2bin_succ, ih (g >>> 1) j (by omega), Nat.testBit_shiftRight,
        Nat.add_comm 1 j]

/-- Nothing stands above the top bit, so the bit rule copies it from the code. -/
theorem testBit_gray2bin_top (k g : Nat) : (gray2bin (k + 1) g).testBit k = g.testBit k := by
  rw [testBit_gray2bin (k + 1) g k (by omega), Nat.testBit_lt_two_pow (gray2bin_lt (k + 1) g), Bool.false_xor]

/-! ### `bin2gray` -/

theorem testBit_bin2gray (b i : Nat) : (bin2gray b).testBit i = (b.testBit i ^^ b.testBit (i + 1)) := by
  rw [bin2gray, Nat.testBit_xor, Nat.testBit_shiftRight, Nat.add_comm 1 i]

theorem bin2gray_lt (k b : Nat) (hb : b < 2 ^ k) : bin2gray b < 2 ^ k :=
  Nat.xor_lt_two_pow hb (by rw [Nat.shiftRight_one]; omega)

/-- Encoding distributes over xor: two codes differ where the code of the difference has its ones. -/
theorem bin2gray_xor (a b : Nat) : bin2gray (a ^^^ b) = bin2gray a ^^^ bin2gray b := by
  apply Nat.eq_of_testBit_eq
  intro i
  simp only [testBit_bin2gray, Nat.testBit_xor, Bool.xor_assoc, Bool.xor_left_comm]

/-- The code of a block of low ones is the single one at the top of the block. -/
theorem bin2gray_low_ones (j : Nat) : bin2gray (2 ^ (j + 1) - 1) = 2 ^ j := by
  apply Nat.eq_of_testBit_eq
  intro i
  simp only [testBit_bin2gray, Nat.testBit_two_pow_sub_one, Nat.testBit_two_pow]
  rcases Nat.lt_trichotomy i j with hlt | rfl | hgt
  · simp [hlt, hlt.ne', Nat.lt_succ_of_lt hlt]
  · simp
  · simp [hgt.le, hgt.ne, hgt.not_ge]

/-! ### Decoding a code -/

/-- Decoding undoes encoding: above bit 0 the code of `b` is the code of `b / 2`, which is decoded one bit narrower, and
bit 0 is `b[1] ^ (b[0] ^ b[1])`. -/
theorem gray2bin_bin2gray (k b : Nat) (hb : b < 2 ^ k) : gray2bin k (bin2gray b) = b := by
  induction k generalizing b with
  | zero => simp_all [gray2bin]
  | succ k ih =>
    have hshift : bin2gray b >>> 1 = bin2gray (b / 2) := by
      simp only [bin2gray, Nat.shiftRight_one, Nat.xor_div_two]
    have hlow : bin2gray b % 2 = (b + b / 2) % 2 := by
      rw [bin2gray, Nat.shiftRight_one, Nat.xor_mod_two_eq]
    rw [gray2bin, hshift, ih (b / 2) (by omega)]
    omega

/-! ### Consecutive codes -/

/-- Adding 1 always flips bit 0. -/
theorem xor_wrap_succ_mod_two (k b : Nat) : (b ^^^ ((b + 1) % 2 ^ (k + 1))) % 2 = 1 := by
  have hwrap : (b + 1) % 2 ^ (k + 1) % 2 = (b + 1) % 2 := Nat.mod_mod_of_dvd _ (Dvd.intro_left (2 ^ k) rfl)
  rw [Nat.xor_mod_two_eq]
  omega

/-- What adding 1 does above bit 0: the wrap is one bit narrower there. -/
theorem xor_wrap_succ_div_two (k b : Nat) :
    (b ^^^ ((b + 1) % 2 ^ (k + 1))) / 2 = (b / 2) ^^^ ((b + 1) / 2 % 2 ^ k) := by
  rw [Nat.xor_div_two, Nat.pow_succ', Nat.mod_mul_right_div_self]

/-- Adding 1 flips a block of low bits, the carry chain; at the wrap, all `k + 1` of them. -/
theorem xor_wrap_succ (k b : Nat) (hb : b < 2 ^ (k + 1)) :
    ∃ j, j ≤ k ∧ b ^^^ ((b + 1) % 2 ^ (k + 1)) = 2 ^ (j + 1) - 1 := by
  induction k generalizing b with
  | zero =>
    have hlow := xor_wrap_succ_mod_two 0 b
    have hone : b ^^^ ((b + 1) % 2 ^ (0 + 1)) < 2 ^ 1 := Nat.xor_lt_two_pow hb (Nat.mod_lt _ (Nat.two_pow_pos _))
    exact ⟨0, le_rfl, by omega⟩
  | succ k ih =>
    have hlow := xor_wrap_succ_mod_two (k + 1) b
    have hhigh := xor_wrap_succ_div_two (k + 1) b
    rcases Nat.mod_two_eq_zero_or_one b with heven | hodd
    · have hstop : (b + 1) / 2 = b / 2 := by omega
      rw [hstop, Nat.mod_eq_of_lt (by omega : b / 2 < 2 ^ (k + 1)), Nat.xor_self] at hhigh
      exact ⟨0, Nat.zero_le _, by omega⟩
    · have hcarry : (b + 1) / 2 = b / 2 + 1 := by omega
      obtain ⟨j, hj, hx⟩ := ih (b / 2) (by omega)
      rw [hcarry, hx] at hhigh
      have hpos : 0 < 2 ^ (j + 1) := Nat.two_pow_pos _
      exact ⟨j + 1, by omega, by rw [Nat.pow_succ 2 (j + 1)]; omega⟩

/-- The codes of a number and its wrapped successor differ in one bit, the top of the carry chain. -/
theorem bin2gray_xor_wrap_succ (k b : Nat) (hb : b < 2 ^ (k + 1)) :
    ∃ j, j ≤ k ∧ bin2gray b ^^^ bin2gray ((b + 1) % 2 ^ (k + 1)) = 2 ^ j := by
  obtain ⟨j, hj, hx⟩ := xor_wrap_succ k b hb
  exact ⟨j, hj, by rw [← bin2gray_xor, hx, bin2gray_low_ones]⟩

/-- Two numbers whose xor is a power of two differ in exactly that bit. -/
theorem testBit_ne_iff_of_xor (a b j : Nat) (h : a ^^^ b = 2 ^ j) (i : Nat) :
    a.testBit i ≠ b.testBit i ↔ i = j := by
  have hi : (a.testBit i ^^ b.testBit i) = decide (j = i) := by
    rw [← Nat.testBit_xor, h, Nat.testBit_two_pow]
  rw [← Bool.xor_iff_ne, hi, decide_eq_true_iff, eq_comm]

/-- Settles O37: the bit rules are `testBit_gray2bin` and `testBit_bin2gray`; the one bit in which consecutive codes
differ is the top of the carry chain of `b + 1`. -/
theorem grayCodeChangesOneBitAndDecodes : Obligations.GrayCodeChangesOneBitAndDecodes := by
  refine ⟨fun k g _ => ⟨testBit_gray2bin_top k g, fun i hi => testBit_gray2bin (k + 1) g i (by omega)⟩, ?_⟩
  intro k b hk hb
  refine ⟨gray2bin_bin2gray k b hb, bin2gray_lt k b hb, testBit_bin2gray b, ?_⟩
  obtain ⟨n, rfl⟩ := Nat.exists_eq_succ_of_ne_zero (by omega : k ≠ 0)
  obtain ⟨j, hj, hx⟩ := bin2gray_xor_wrap_succ n b hb
  exact ⟨j, by omega, testBit_ne_iff_of_xor _ _ j hx⟩

end Sys2Proof.Machine

/-! The counts of the rings, and when a ring is empty or full (R14). -/

namespace Sys2Proof.Machine

/-! ### The wrapped difference without the wrap -/

theorem wrapSub_of_le (cap a b : Nat) (hle : b ≤ a) (hlt : a - b < cap) : wrapSub cap a b = a - b := by
  have h := wrapSub_int cap a b (by omega)
  rw [Int.emod_eq_of_lt (by omega) (by omega)] at h
  omega

theorem wrapSub_of_lt (cap a b : Nat) (hlt : a < b) (hcap : b ≤ a + cap) : wrapSub cap a b = a + cap - b := by
  have h := wrapSub_int cap a b (by omega)
  rw [← Int.add_emod_right, Int.emod_eq_of_lt (by omega) (by omega)] at h
  omega

/-! ### Counts of a ring whose cursors are inside its capacity -/

section RingCount
variable (cap i e : Nat)

theorem ringCount_le_mask (hcap : 0 < cap) : ringCount cap i e ≤ cap - 1 :=
  Nat.le_sub_one_of_lt (wrapSub_lt cap i e hcap)

theorem ringCount_eq (hi : i < cap) (he : e < cap) :
    ringCount cap i e = if i < e then i + cap - e else i - e := by
  unfold ringCount
  split
  · exact wrapSub_of_lt cap i e ‹_› (by omega)
  · exact wrapSub_of_le cap i e (by omega) (by omega)

theorem ringCount_eq_zero_iff (hi : i < cap) (he : e < cap) : ringCount cap i e = 0 ↔ i = e := by
  rw [ringCount_eq cap i e hi he]
  split <;> omega

/-- A ring holds `cap - 1` bytes exactly when the producer stands one before the consumer. -/
theorem ringCount_eq_mask_iff (hi : i < cap) (he : e < cap) :
    ringCount cap i e = cap - 1 ↔ i = wrapSub cap e 1 := by
  rw [ringCount_eq cap i e hi he]
  rcases Nat.eq_zero_or_pos e with rfl | hpos
  · rw [wrapSub_of_lt cap 0 1 (by omega) (by omega), if_neg (by omega)]; omega
  · rw [wrapSub_of_le cap e 1 hpos (by omega)]
    split <;> omega

end RingCount

/-! ### The two rings -/

/-- The position the `clk` domain sees is inside the capacity, whatever the synchronizer holds. -/
theorem rxWsync_lt (s : State) : rxWsync s < s.cfg.rxCap := gray2bin_lt _ _

theorem txEmpty_iff (s : State) : txEmpty s = true ↔ s.txIns = s.txExt := by simp [txEmpty]

theorem rxEmpty_iff (s : State) : rxEmpty s = true ↔ rxWsync s = s.rxRptr := by simp [rxEmpty]

theorem txFull_iff_boundary (s : State) : txFull s = true ↔ s.txIns = wrapSub s.cfg.txCap s.txExt 1 := by
  simp [txFull, txBoundary]

theorem rxFull_iff (s : State) : rxFull s = true ↔ rxCount s = s.cfg.rxCap - 1 := by
  simp [rxFull, Config.rxMask]

/-- Settles O38. The one flag the model does not define by R14's own words is `tx_full`, which compares the insert cursor
with the blocking boundary: there `ringCount_eq_mask_iff` is needed. -/
theorem emptyAndFullAreCountsZeroAndMask : Obligations.EmptyAndFullAreCountsZeroAndMask := by
  intro s hw
  have htxZero : txCount s = 0 ↔ s.txIns = s.txExt := ringCount_eq_zero_iff _ _ _ hw.txIns hw.txExt
  have hrxZero : rxCount s = 0 ↔ rxWsync s = s.rxRptr := ringCount_eq_zero_iff _ _ _ (rxWsync_lt s) hw.rxRptr
  have htxMask : txCount s = s.cfg.txCap - 1 ↔ s.txIns = wrapSub s.cfg.txCap s.txExt 1 :=
    ringCount_eq_mask_iff _ _ _ hw.txIns hw.txExt
  exact ⟨wrapSub_int _ _ _ (Config.txCap_pos _), wrapSub_int _ _ _ (Config.rxCap_pos _),
    ringCount_le_mask _ _ _ (Config.txCap_pos _), ringCount_le_mask _ _ _ (Config.rxCap_pos _),
    (txEmpty_iff s).trans htxZero.symm, (rxEmpty_iff s).trans hrxZero.symm,
    (txFull_iff_boundary s).trans htxMask.symm, rxFull_iff s, txEmpty_iff s, rxEmpty_iff s⟩

end Sys2Proof.Machine

/-! A `clk` edge in one form: the edge parts, what the transaction's register part writes over them, and the answer
(R99). -/

namespace Sys2Proof.Machine

/-- What the register part of a `clk` edge's transaction can make of `post`, the edge parts' result, judged by the state
`pre` before the edge. -/
inductive RegisterEffect (pre post : State) : Instr → State → Prop
  /-- No side effect (R94, R156, R157). -/
  | plain (i : Instr) (h : isPlain i = true ∨ i = .evClk) : RegisterEffect pre post i post
  /-- An RXDATA read of an empty ring (R190). -/
  | emptyPop (h : rxEmpty pre = true) : RegisterEffect pre post .rdRxdata post
  /-- A pop (R190). -/
  | pop (h : rxEmpty pre = false) (ho : rxOverrun pre = false) :
      RegisterEffect pre post .rdRxdata (advanceRptr pre post)
  /-- A pop after an overrun (R191). -/
  | overrunPop (h : rxEmpty pre = false) (ho : rxOverrun pre = true) :
      RegisterEffect pre post .rdRxdata (countDraw pre (advanceRptr pre post))
  /-- A CTRL write (R152). -/
  | control (v : Word) : RegisterEffect pre post (.wrCtrl v) (writeCtrl v post)
  /-- A STATUS write that clears TC (R154). -/
  | clear (v : Word) (hd : txDone pre = false) (hv : statusTcBit v = true) :
      RegisterEffect pre post (.wrStatus v) (clearTc post)
  /-- A STATUS write without bit 5, or at a completion step (R154). -/
  | keepTc (v : Word) (h : txDone pre = true ∨ statusTcBit v = false) : RegisterEffect pre post (.wrStatus v) post
  /-- A TXDATA write that is accepted (R210). -/
  | accept (v : Word) (h : txFull pre = false) :
      RegisterEffect pre post (.wrTxdata v) (acceptByte (txdataByte v) pre post)
  /-- A TXDATA write that is dropped (R210). -/
  | drop (v : Word) (h : txFull pre = true) : RegisterEffect pre post (.wrTxdata v) (dropByte post)
  /-- A kick that arms a block (R212). -/
  | arm (v : Word) (hidle : pre.txActive = false) (hpending : txEmpty pre = false) :
      RegisterEffect pre post (.wrTxkick v) (armBlock pre.txExt pre.txIns post)
  /-- A kick while a block is armed, or of an empty ring (R212). -/
  | noArm (v : Word) (h : pre.txActive = true ∨ txEmpty pre = true) : RegisterEffect pre post (.wrTxkick v) post

/-- Everything a `clk` edge can do. -/
theorem exec_clkEdge (i : Instr) (s : State) (hi : isClkEdge i = true) :
    ∃ u answer, RegisterEffect s (edgeParts s) i u ∧ exec i s = .next { u with resp := answer } := by
  cases i with
  | evRx v b => simp [isClkEdge] at hi
  | evReset => simp [isClkEdge] at hi
  | rdRxdata =>
    refine ⟨_, _, ?_, rfl⟩
    rcases popRx_cases s (edgeParts s) with ⟨he, h⟩ | ⟨he, ho, h⟩ | ⟨he, ho, h⟩
    · exact h.symm ▸ .emptyPop he
    · exact h.symm ▸ .overrunPop he ho
    · exact h.symm ▸ .pop he ho
  | wrCtrl v => exact ⟨_, _, .control v, rfl⟩
  | wrStatus v =>
    refine ⟨_, _, ?_, rfl⟩
    rcases writeStatus_cases v s (edgeParts s) with ⟨hd, hv, h⟩ | ⟨hkeep, h⟩
    · exact h.symm ▸ .clear v hd hv
    · exact h.symm ▸ .keepTc v hkeep
  | wrTxdata v =>
    refine ⟨_, _, ?_, rfl⟩
    rcases writeTxdata_cases v s (edgeParts s) with ⟨hfull, h⟩ | ⟨hroom, h⟩
    · exact h.symm ▸ .drop v hfull
    · exact h.symm ▸ .accept v hroom
  | wrTxkick v =>
    refine ⟨_, _, ?_, rfl⟩
    rcases kick_cases s (edgeParts s) with ⟨hidle, hpending, h⟩ | ⟨hno, h⟩
    · exact h.symm ▸ .arm v hidle hpending
    · exact h.symm ▸ .noArm v hno
  | evClk => exact ⟨_, _, .plain _ (.inr rfl), rfl⟩
  | _ => exact ⟨_, _, .plain _ (.inl rfl), rfl⟩

/-- What a completed `clk` edge has done. -/
theorem exec_clkEdge_next (i : Instr) (s t : State) (hi : isClkEdge i = true) (h : exec i s = .next t) :
    ∃ u answer, RegisterEffect s (edgeParts s) i u ∧ t = { u with resp := answer } := by
  obtain ⟨u, answer, heffect, he⟩ := exec_clkEdge i s hi
  exact ⟨u, answer, heffect, Host.Outcome.next.inj (h.symm.trans he)⟩

/-- The operations that are no `clk` edge (R98). -/
theorem eq_evRx_or_evReset (i : Instr) (hi : isClkEdge i = false) : (∃ v b, i = .evRx v b) ∨ i = .evReset := by
  cases i with
  | evRx v b => exact .inl ⟨v, b, rfl⟩
  | evReset => exact .inr rfl
  | _ => simp [isClkEdge] at hi

end Sys2Proof.Machine

/-! The laws of storage that need its canonical form: it lists every address once, so it is told by its reads (R37, R45,
entry 5). -/

namespace Sys2Proof.Machine

/-- In canonical form no later entry lists an address up to that of the first. -/
theorem Memory.read?_tail_of_le (x : Nat) (y : Byte) (m : Memory) (a : Nat) (h : Memory.wf ((x, y) :: m) = true)
    (ha : a ≤ x) : Memory.read? m a = none := by
  induction m generalizing x y with
  | nil => rfl
  | cons c rest ih =>
    obtain ⟨z, w⟩ := c
    obtain ⟨hhead, hrest⟩ := (Memory.wf_cons x y _).1 h
    have hxz : x < z := hhead (z, w) rfl
    rw [Memory.read?, if_neg (by omega : ¬ z = a), ih z w hrest (by omega)]

/-- Two storages in canonical form that read alike do not begin at different addresses: the lower one would be listed in
one of them only. -/
theorem Memory.head_le_of_reads (x z : Nat) (y w : Byte) (m n : Memory) (hn : Memory.wf ((z, w) :: n) = true)
    (h : ∀ a, Memory.read? ((x, y) :: m) a = Memory.read? ((z, w) :: n) a) : z ≤ x := by
  by_contra hlt
  have hx := h x
  rw [Memory.read?, if_pos rfl, Memory.read?, if_neg (by omega : ¬ z = x),
    Memory.read?_tail_of_le z w n x hn (by omega)] at hx
  exact Option.some_ne_none y hx

/-- The canonical form is told by its reads. -/
theorem Memory.ext_of_wf (m n : Memory) (hm : Memory.wf m = true) (hn : Memory.wf n = true)
    (h : ∀ a, Memory.read? m a = Memory.read? n a) : m = n := by
  induction m generalizing n with
  | nil =>
    cases n with
    | nil => rfl
    | cons d n => simpa [Memory.read?] using h d.1
  | cons c m ih =>
    cases n with
    | nil => simpa [Memory.read?] using h c.1
    | cons d n =>
      obtain ⟨x, y⟩ := c
      obtain ⟨z, w⟩ := d
      obtain rfl : x = z := Nat.le_antisymm (Memory.head_le_of_reads z x w y n m hm fun a => (h a).symm)
        (Memory.head_le_of_reads x z y w m n hn h)
      obtain rfl : y = w := by simpa [Memory.read?] using h x
      have htail : ∀ a, Memory.read? m a = Memory.read? n a := by
        intro a
        rcases Nat.lt_or_ge x a with hlt | hle
        · simpa [Memory.read?, hlt.ne] using h a
        · rw [Memory.read?_tail_of_le x y m a hm hle, Memory.read?_tail_of_le x y n a hn hle]
      rw [ih n ((Memory.wf_cons x y m).1 hm).2 ((Memory.wf_cons x y n).1 hn).2 htail]

/-- Settles O47: the laws of one write, and `Memory.ext_of_wf` for the one canonical form. -/
theorem storageWriteReadsBack : Obligations.StorageWriteReadsBack :=
  ⟨fun m a b hm => ⟨Memory.read?_write_same m a b, fun a' ha' => Memory.read?_write_other m a a' b ha',
    Memory.wf_write m a b hm⟩, Memory.ext_of_wf⟩

end Sys2Proof.Machine

/-! The flags of the interrupt at a `clk` edge: TC, TCIE and the completion pulse (R49, R59). -/

namespace Sys2Proof.Machine

/-- No register part writes the completion pulse. -/
theorem RegisterEffect.cplPulse_eq {pre post u : State} {i : Instr} (h : RegisterEffect pre post i u) :
    u.cplPulse = post.cplPulse := by
  cases h <;> rfl

/-- Only a CTRL write writes TCIE. -/
theorem RegisterEffect.ctrlTcie_eq {pre post u : State} {i : Instr} (h : RegisterEffect pre post i u)
    (hctrl : ∀ v, i ≠ .wrCtrl v) : u.ctrlTcie = post.ctrlTcie := by
  cases h with
  | control v => exact absurd rfl (hctrl v)
  | _ => rfl

/-- Only a STATUS write clears TC, and none does at a completion step. -/
theorem RegisterEffect.stTc_eq_of_txDone {pre post u : State} {i : Instr} (h : RegisterEffect pre post i u)
    (hdone : txDone pre = true) : u.stTc = post.stTc := by
  cases h with
  | clear v hd _ => simp [hdone] at hd
  | _ => rfl

theorem writeStatus_eq_clearTc (v : Word) (pre post : State) (hd : txDone pre = false) (hv : v.getLsbD 5 = true) :
    writeStatus v pre post = clearTc post := by
  simp [writeStatus, hd, statusTcBit, hv]

/-- Settles O46: the pulse after an edge is `txDone` before it, and a completion step sets TC, which at its own edge
nothing clears. -/
theorem interruptIsRaisedAndCleared : Obligations.InterruptIsRaisedAndCleared := by
  refine ⟨fun s => rfl, ?_, ?_, ?_⟩
  · intro i s hi hctrl ha hr htcie
    have hd : txDone s = true := (txDone_iff s).2 ⟨ha, hr⟩
    obtain ⟨u, answer, heffect, he⟩ := exec_clkEdge i s hi
    refine ⟨_, he, ?_, ?_⟩
    · simp [irqO, heffect.stTc_eq_of_txDone hd, heffect.ctrlTcie_eq hctrl, hd, htcie]
    · simp [txDoneO, heffect.cplPulse_eq, hd]
  · intro i s hi hphase
    obtain ⟨u, answer, heffect, he⟩ := exec_clkEdge i s hi
    exact ⟨_, he, by simp [txDoneO, heffect.cplPulse_eq, txDone_eq_false s hphase]⟩
  · intro s v hphase hv
    exact ⟨_, rfl, by simp [irqO, writeStatus_eq_clearTc v s _ (txDone_eq_false s hphase) hv]⟩

end Sys2Proof.Machine

/-! What the `clk` domain reads of the `rx_clk` domain (R38, R41, R42): every part of a `clk` edge commutes with putting
other values into `rx_remain`, the enable chain and RX storage. -/

namespace Sys2Proof.Machine

/-- The state with other values in the elements of the `rx_clk` domain that no synchronizer carries over. -/
def withReceiveSide (remain : Nat) (enables : List Bool) (mem : Memory) (s : State) : State :=
  { s with rxRemain := remain, rxenSync := enables, rxmem := mem }

section ReceiveSide
variable (remain : Nat) (enables : List Bool) (mem : Memory)

/-! ### The edge parts and the register parts -/

theorem edgeParts_withReceiveSide (s : State) :
    edgeParts (withReceiveSide remain enables mem s) = withReceiveSide remain enables mem (edgeParts s) := by
  simp only [edgeParts, engineEdge, completionStep, apply_ite (withReceiveSide remain enables mem)]
  rfl

theorem readEdge_withReceiveSide (w : Word) (s : State) :
    readEdge w (withReceiveSide remain enables mem s) = withReceiveSide remain enables mem (readEdge w s) :=
  congrArg (respond w false) (edgeParts_withReceiveSide remain enables mem s)

theorem popRx_withReceiveSide (pre post : State) :
    popRx (withReceiveSide remain enables mem pre) (withReceiveSide remain enables mem post) =
      withReceiveSide remain enables mem (popRx pre post) := by
  simp only [popRx, apply_ite (withReceiveSide remain enables mem)]
  rfl

theorem writeStatus_withReceiveSide (v : Word) (pre post : State) :
    writeStatus v (withReceiveSide remain enables mem pre) (withReceiveSide remain enables mem post) =
      withReceiveSide remain enables mem (writeStatus v pre post) := by
  simp only [writeStatus, apply_ite (withReceiveSide remain enables mem)]
  rfl

theorem writeTxdata_withReceiveSide (v : Word) (pre post : State) :
    writeTxdata v (withReceiveSide remain enables mem pre) (withReceiveSide remain enables mem post) =
      withReceiveSide remain enables mem (writeTxdata v pre post) := by
  simp only [writeTxdata, apply_ite (withReceiveSide remain enables mem)]
  rfl

theorem kick_withReceiveSide (pre post : State) :
    kick (withReceiveSide remain enables mem pre) (withReceiveSide remain enables mem post) =
      withReceiveSide remain enables mem (kick pre post) := by
  simp only [kick, apply_ite (withReceiveSide remain enables mem)]
  rfl

/-! ### The operations -/

/-- Every `clk` edge runs alike whatever the receive side holds; a pop wants the RX storage it reads. -/
theorem exec_withReceiveSide (i : Instr) (s t : State) (hi : isClkEdge i = true)
    (hmem : i = .rdRxdata → mem = s.rxmem) (h : exec i s = .next t) :
    exec i (withReceiveSide remain enables mem s) = .next (withReceiveSide remain enables mem t) := by
  have hedge := edgeParts_withReceiveSide remain enables mem s
  cases i with
  | evRx v b => simp [isClkEdge] at hi
  | evReset => simp [isClkEdge] at hi
  | rdRxdata =>
    obtain rfl := hmem rfl
    obtain rfl := Host.Outcome.next.inj h
    rw [exec, execRdRxdata, hedge, popRx_withReceiveSide]
    rfl
  | wrCtrl w =>
    obtain rfl := Host.Outcome.next.inj h
    rw [exec, execWrCtrl, hedge]
    rfl
  | wrStatus w =>
    obtain rfl := Host.Outcome.next.inj h
    rw [exec, execWrStatus, hedge, writeStatus_withReceiveSide]
    rfl
  | wrTxdata w =>
    obtain rfl := Host.Outcome.next.inj h
    rw [exec, execWrTxdata, hedge, writeTxdata_withReceiveSide]
    rfl
  | wrTxkick w =>
    obtain rfl := Host.Outcome.next.inj h
    rw [exec, execWrTxkick, hedge, kick_withReceiveSide]
    rfl
  | evClk =>
    obtain rfl := Host.Outcome.next.inj h
    rw [exec, execEvClk, hedge]
    rfl
  | _ =>
    obtain rfl := Host.Outcome.next.inj h
    exact congrArg Host.Outcome.next (readEdge_withReceiveSide remain enables mem _ s)

end ReceiveSide

/-- No register part writes RX storage. -/
theorem RegisterEffect.rxmem_eq {pre post u : State} {i : Instr} (h : RegisterEffect pre post i u) :
    u.rxmem = post.rxmem := by
  cases h <;> rfl

/-- No `clk` edge writes RX storage (R37). -/
theorem exec_clkEdge_rxmem (i : Instr) (s t : State) (hi : isClkEdge i = true) (h : exec i s = .next t) :
    t.rxmem = s.rxmem := by
  obtain ⟨u, answer, heffect, rfl⟩ := exec_clkEdge_next i s t hi h
  simp [heffect.rxmem_eq]

/-- Settles O33: the first clause is `exec_withReceiveSide` with RX storage put back as it is. -/
theorem clkDomainReadsNoReceiveCounter : Obligations.ClkDomainReadsNoReceiveCounter := by
  intro i s t remain enables mem hi h
  constructor
  · have hmem := exec_clkEdge_rxmem i s t hi h
    calc exec i (withReceiveSide remain enables s.rxmem s)
        = .next (withReceiveSide remain enables s.rxmem t) :=
          exec_withReceiveSide remain enables s.rxmem i s t hi (fun _ => rfl) h
      _ = .next (withReceiveSide remain enables t.rxmem t) := by rw [hmem]
  · intro hne
    exact exec_withReceiveSide remain enables mem i s t hi (fun hpop => absurd hpop hne) h

end Sys2Proof.Machine

/-! The TX side of the invariant: R81 items 3, 4 and 5, the widths, TX storage, and the bytes still to deliver, in a form
that each operation of the engine and the ring keeps by itself. -/

namespace Sys2Proof.Machine

/-! ### Ring positions: the producer stands `ringCount` after the consumer -/

section RingPosition
variable (cap i e : Nat)

theorem add_ringCount_mod (hi : i < cap) (he : e < cap) : (e + ringCount cap i e) % cap = i := by
  rw [ringCount_eq cap i e hi he]
  split
  · rw [show e + (i + cap - e) = i + cap by omega, Nat.add_mod_right, Nat.mod_eq_of_lt hi]
  · rw [show e + (i - e) = i by omega, Nat.mod_eq_of_lt hi]

/-- The count is the one number below the capacity that leads from the consumer to the producer. -/
theorem ringCount_eq_of_add_mod (n : Nat) (hi : i < cap) (he : e < cap) (hn : n < cap) (h : (e + n) % cap = i) :
    ringCount cap i e = n := by
  have hcount : ringCount cap i e < cap := wrapSub_lt cap i e (by omega)
  have hmod : ringCount cap i e % cap = n % cap :=
    Nat.ModEq.add_left_cancel' e ((add_ringCount_mod cap i e hi he).trans h.symm)
  rwa [Nat.mod_eq_of_lt hcount, Nat.mod_eq_of_lt hn] at hmod

theorem ringCount_advance (n : Nat) (hi : i < cap) (he : e < cap) (hn : n ≤ ringCount cap i e) :
    ringCount cap i ((e + n) % cap) = ringCount cap i e - n := by
  have hcount : ringCount cap i e < cap := wrapSub_lt cap i e (by omega)
  refine ringCount_eq_of_add_mod cap i _ _ hi (Nat.mod_lt _ (by omega)) (by omega) ?_
  rw [Nat.mod_add_mod, show e + n + (ringCount cap i e - n) = e + ringCount cap i e by omega,
    add_ringCount_mod cap i e hi he]

theorem ringCount_insert (hi : i < cap) (he : e < cap) (hroom : ringCount cap i e + 1 < cap) :
    ringCount cap ((i + 1) % cap) e = ringCount cap i e + 1 := by
  refine ringCount_eq_of_add_mod cap _ e _ (Nat.mod_lt _ (by omega)) he hroom ?_
  rw [← Nat.add_assoc, ← Nat.mod_add_mod, add_ringCount_mod cap i e hi he]

/-- The contiguous run of R224 is not empty, ends inside the capacity, and holds bytes of the ring only. -/
theorem runLength_bounds (hi : i < cap) (he : e < cap) (hne : i ≠ e) :
    1 ≤ runLength cap e i ∧ e + runLength cap e i ≤ cap ∧ runLength cap e i ≤ ringCount cap i e := by
  rw [ringCount_eq cap i e hi he, runLength]
  split <;> split <;> omega

end RingPosition

/-! ### Bytes written -/

/-- The `n` bytes of a ring from the position `e` have been written since reset. -/
def RingWritten (m : Memory) (cap e n : Nat) : Prop := ∀ k, k < n → (Memory.read? m ((e + k) % cap)).isSome = true

theorem Memory.isSome_read?_write (m : Memory) (a a' : Nat) (b : Byte)
    (h : a' = a ∨ (Memory.read? m a').isSome = true) : (Memory.read? (Memory.write m a b) a').isSome = true := by
  by_cases he : a' = a
  · rw [he, Memory.read?_write_same, Option.isSome_some]
  · rw [Memory.read?_write_other m a a' b he]
    exact h.resolve_left he

theorem RingWritten.drop (m : Memory) (cap e n d : Nat) (h : RingWritten m cap e n) :
    RingWritten m cap ((e + d) % cap) (n - d) := by
  intro k hk
  rw [Nat.mod_add_mod, Nat.add_assoc]
  exact h (d + k) (by omega)

theorem RingWritten.snoc (m : Memory) (cap e n : Nat) (b : Byte) (h : RingWritten m cap e n) :
    RingWritten (Memory.write m ((e + n) % cap) b) cap e (n + 1) := by
  intro k hk
  apply Memory.isSome_read?_write
  rcases Nat.lt_succ_iff_lt_or_eq.1 hk with hlt | rfl
  · exact .inr (h k hlt)
  · exact .inl rfl

/-! ### The TX side of the invariant -/

/-- The armed block (R48): it starts at the extract cursor, holds unread bytes, does not wrap, and the transfer pointer
stands `tx_rem` before its end. -/
structure State.ArmedBlock (s : State) : Prop where
  start : s.txStart = s.txExt
  notEmpty : 1 ≤ s.txLen
  inside : s.txExt + s.txLen ≤ s.cfg.txCap
  remaining : s.txRem ≤ s.txLen
  pointer : s.txPtr + s.txRem = s.txExt + s.txLen
  unread : s.txLen ≤ txCount s

/-- The TX side of the invariant. -/
structure State.TransmitInv (s : State) : Prop where
  ins : s.txIns < s.cfg.txCap
  ext : s.txExt < s.cfg.txCap
  start : s.txStart < s.cfg.txCap
  len : s.txLen ≤ s.cfg.txCap
  ptr : s.txPtr ≤ s.cfg.txCap
  idle : s.txActive = false → s.txRem = 0
  block : s.txActive = true → s.ArmedBlock
  canonical : Memory.wf s.txmem = true
  insideCap : ∀ c ∈ s.txmem, c.1 < s.cfg.txCap
  written : RingWritten s.txmem s.cfg.txCap s.txExt (txCount s)

/-- The elements the TX side of the invariant is about are the same. -/
def TransmitKept (s t : State) : Prop :=
  t.cfg = s.cfg ∧ t.txmem = s.txmem ∧ t.txIns = s.txIns ∧ t.txExt = s.txExt ∧ t.txActive = s.txActive ∧
  t.txStart = s.txStart ∧ t.txLen = s.txLen ∧ t.txPtr = s.txPtr ∧ t.txRem = s.txRem

theorem State.TransmitInv.of_kept {s t : State} (h : s.TransmitInv) (hkept : TransmitKept s t) : t.TransmitInv := by
  cases s
  cases t
  simp only [TransmitKept] at hkept
  obtain ⟨rfl, rfl, rfl, rfl, rfl, rfl, rfl, rfl, rfl⟩ := hkept
  exact { h with block := fun ha => { h.block ha with } }

/-! ### The operations that write the TX side -/

/-- The handshake (R220). -/
theorem State.TransmitInv.handshake {s : State} (h : s.TransmitInv) (hv : txValidO s = true) :
    (handshake s s).TransmitInv := by
  obtain ⟨hactive, hrem⟩ := (txValidO_iff s).1 hv
  obtain ⟨hstart, hne, hinside, hremaining, hpointer, hunread⟩ := h.block hactive
  refine { h with ptr := ?_, idle := ?_, block := fun _ => ⟨hstart, hne, hinside, ?_, ?_, hunread⟩ }
  · simp; omega
  · simp [hactive]
  · simp; omega
  · simp; omega

/-- At the completion step the transfer pointer stands at the end of the block. -/
theorem State.TransmitInv.completedOffset_eq {s : State} (h : s.TransmitInv) (hd : txDone s = true) :
    completedOffset s = (s.txExt + s.txLen) % s.cfg.txCap := by
  obtain ⟨hactive, hrem⟩ := (txDone_iff s).1 hd
  rw [completedOffset, wrap, ← (h.block hactive).pointer, hrem, Nat.add_zero]

/-- The completion step takes the block's bytes out of the ring. -/
theorem State.TransmitInv.txCount_reportCompletion {s : State} (h : s.TransmitInv) (hd : txDone s = true) :
    txCount (reportCompletion s s) = txCount s - s.txLen := by
  have hunread := (h.block ((txDone_iff s).1 hd).1).unread
  rw [txCount, reportCompletion_txExt, h.completedOffset_eq hd]
  exact ringCount_advance _ _ _ _ h.ins h.ext hunread

/-- The completion step's report, with the engine left idle (R222). -/
theorem State.TransmitInv.completion {s : State} (h : s.TransmitInv) (hd : txDone s = true) :
    (goIdle (reportCompletion s s)).TransmitInv := by
  refine { h with ext := Nat.mod_lt _ (Config.txCap_pos _), idle := fun _ => ((txDone_iff s).1 hd).2, block := ?_,
                  written := ?_ }
  · simp
  · have hdrop := RingWritten.drop _ _ _ _ s.txLen h.written
    rw [← h.completedOffset_eq hd, ← h.txCount_reportCompletion hd] at hdrop
    exact hdrop

/-- Arming the run from the extract cursor (R224). -/
theorem State.TransmitInv.arm {s : State} (h : s.TransmitInv) (hne : s.txIns ≠ s.txExt) :
    (armBlock s.txExt s.txIns s).TransmitInv := by
  obtain ⟨hpos, hinside, hunread⟩ := runLength_bounds s.cfg.txCap s.txIns s.txExt h.ins h.ext hne
  refine { h with start := h.ext, len := ?_, ptr := h.ext.le, idle := ?_,
                  block := fun _ => ⟨rfl, hpos, hinside, le_rfl, rfl, hunread⟩ }
  · simp; omega
  · simp

/-- An accepted TXDATA write into a ring with room (R210). -/
theorem State.TransmitInv.accept {s : State} (h : s.TransmitInv) (b : Byte) (hroom : txCount s + 1 < s.cfg.txCap) :
    (acceptByte b s s).TransmitInv := by
  have hcount : txCount (acceptByte b s s) = txCount s + 1 := ringCount_insert _ _ _ h.ins h.ext hroom
  refine { h with ins := Nat.mod_lt _ (Config.txCap_pos _), block := fun ha => { h.block ha with unread := ?_ },
                  canonical := Memory.wf_write _ _ _ h.canonical, insideCap := ?_, written := ?_ }
  · rw [hcount]
    exact Nat.le_succ_of_le (h.block ha).unread
  · exact Memory.inside_write _ _ _ _ h.ins h.insideCap
  · have hsnoc := RingWritten.snoc _ _ _ _ b h.written
    rw [show (s.txExt + txCount s) % s.cfg.txCap = s.txIns from add_ringCount_mod _ _ _ h.ins h.ext] at hsnoc
    rw [hcount]
    exact hsnoc

/-! ### A `clk` edge -/

/-- While the engine is idle, the edge parts are the synchronizer's shift. -/
theorem edgeParts_of_idle (s : State) (h : s.txActive = false) : edgeParts s = clearPulse (syncShift s s) :=
  engineEdge_rest s _ (by simp [txDone, h]) (.inl (by simp [txValidO, h]))

theorem State.TransmitInv.edgeParts {s : State} (h : s.TransmitInv) : (edgeParts s).TransmitInv := by
  rw [Machine.edgeParts]
  rcases engineEdge_cases s (syncShift s s) with ⟨hd, _, e⟩ | ⟨hd, hne, e⟩ | ⟨_, hv, _, e⟩ | ⟨_, _, e⟩ <;> rw [e]
  · exact (h.completion hd).of_kept (by simp [TransmitKept])
  · exact ((h.completion hd).arm hne.symm).of_kept (by simp [TransmitKept])
  · exact (h.handshake hv).of_kept (by simp [TransmitKept])
  · exact h.of_kept (by simp [TransmitKept])

/-- The edge parts put no byte into the ring. -/
theorem State.TransmitInv.txCount_edgeParts_le {s : State} (h : s.TransmitInv) :
    txCount (Machine.edgeParts s) ≤ txCount s := by
  rw [Machine.edgeParts]
  rcases engineEdge_cases s (syncShift s s) with ⟨hd, _, e⟩ | ⟨hd, _, e⟩ | ⟨_, _, _, e⟩ | ⟨_, _, e⟩ <;> rw [e]
  · exact (h.txCount_reportCompletion hd).le.trans (Nat.sub_le _ _)
  · exact (h.txCount_reportCompletion hd).le.trans (Nat.sub_le _ _)
  · exact le_rfl
  · exact le_rfl

/-- A ring that is not full has room for one byte more. -/
theorem State.TransmitInv.room {s : State} (h : s.TransmitInv) (hfull : txFull s = false) :
    txCount s + 1 < s.cfg.txCap := by
  have hcount : txCount s < s.cfg.txCap := wrapSub_lt _ _ _ (Config.txCap_pos _)
  have hmask : txCount s ≠ s.cfg.txCap - 1 := fun hc =>
    absurd ((txFull_iff_boundary s).2 ((ringCount_eq_mask_iff _ _ _ h.ins h.ext).1 hc)) (by simp [hfull])
  omega

/-- Every `clk` edge keeps the TX side of the invariant. -/
theorem RegisterEffect.transmitInv {s u : State} {i : Instr} (heffect : RegisterEffect s (edgeParts s) i u)
    (h : s.TransmitInv) : u.TransmitInv := by
  have hedge := h.edgeParts
  cases heffect with
  | accept v hfull =>
    have hroom : txCount (edgeParts s) + 1 < (edgeParts s).cfg.txCap := by
      have hle := h.txCount_edgeParts_le
      have := h.room hfull
      simp only [edgeParts_cfg]
      omega
    exact (hedge.accept (txdataByte v) hroom).of_kept (by simp [TransmitKept])
  | arm v hidle hpending =>
    have hne : s.txIns ≠ s.txExt := fun he => by simp [(txEmpty_iff s).2 he] at hpending
    exact (h.arm hne).of_kept (by simp [TransmitKept, edgeParts_of_idle s hidle])
  | plain | emptyPop | pop | overrunPop | control | clear | keepTc | drop | noArm =>
    exact hedge.of_kept (by simp [TransmitKept])

end Sys2Proof.Machine

/-! The RX side of the invariant: R81 items 1, 2 and 6, the widths, RX storage, and the bytes captured, all told by the two
counts `W_total` and `R_total`. -/

namespace Sys2Proof.Machine

/-! ### The history of the pointer synchronizer (R81 item 2) -/

/-- What the stages of the synchronizer hold: the codes of the capture counts `seen`, later stages of no later one, none
above `written` or below `read`. -/
structure CaptureHistory (cap written read : Nat) (stages seen : List Nat) : Prop where
  codes : stages = seen.map fun n => bin2gray (n % cap)
  ordered : (written :: seen).Pairwise fun later earlier => earlier ≤ later
  unread : ∀ n ∈ seen, read ≤ n

namespace CaptureHistory
variable {cap written read : Nat} {stages seen : List Nat}

theorem seen_length (h : CaptureHistory cap written read stages seen) : seen.length = stages.length := by
  rw [h.codes, List.length_map]

theorem le_written (h : CaptureHistory cap written read stages seen) : ∀ n ∈ seen, n ≤ written :=
  (List.pairwise_cons.1 h.ordered).1

/-- The last stage holds the earliest count. -/
theorem getLast_le (h : CaptureHistory cap written read stages seen) (hne : seen ≠ []) :
    ∀ n ∈ seen, seen.getLast hne ≤ n := fun _ hn =>
  (List.pairwise_cons.1 h.ordered).2.rel_getLast hn

theorem read_le_written (h : CaptureHistory cap written read stages seen) (hne : seen ≠ []) : read ≤ written :=
  (h.unread _ (List.getLast_mem hne)).trans (h.le_written _ (List.getLast_mem hne))

/-- The synchronizer shifts (R180). -/
theorem shift (h : CaptureHistory cap written read stages seen) (hread : read ≤ written) :
    CaptureHistory cap written read (shiftIn (bin2gray (written % cap)) stages) (shiftIn written seen) where
  codes := by simp [shiftIn, h.codes, List.map_take]
  ordered := by
    refine List.pairwise_cons.2 ⟨fun n hn => ?_, h.ordered.sublist (List.take_sublist _ _)⟩
    exact (mem_shiftIn _ _ _ hn).elim (fun he => he.le) (h.le_written n)
  unread := fun n hn => (mem_shiftIn _ _ _ hn).elim (fun he => he ▸ hread) (h.unread n)

/-- A capture changes no stage (R171). -/
theorem capture (h : CaptureHistory cap written read stages seen) :
    CaptureHistory cap (written + 1) read stages seen where
  codes := h.codes
  ordered := List.pairwise_cons.2 ⟨fun n hn => Nat.le_succ_of_le (h.le_written n hn), (List.pairwise_cons.1 h.ordered).2⟩
  unread := h.unread

/-- A byte that the last stage shows may be read (R190). -/
theorem pop (h : CaptureHistory cap written read stages seen) (hne : seen ≠ []) (hlast : read < seen.getLast hne) :
    CaptureHistory cap written (read + 1) stages seen where
  codes := h.codes
  ordered := h.ordered
  unread := fun n hn => hlast.trans_le (h.getLast_le hne n hn)

end CaptureHistory

/-! ### The RX side of the invariant -/

/-- The RX side of the invariant. -/
structure State.ReceiveInv (s : State) : Prop where
  remain : s.rxRemain + s.wTotal % s.cfg.rxCap = s.cfg.rxCap
  gray : s.rxWgray = bin2gray (s.wTotal % s.cfg.rxCap)
  history : ∃ seen, CaptureHistory s.cfg.rxCap s.wTotal s.rTotal s.rxSync seen
  cursor : s.rxRptr = s.rTotal % s.cfg.rxCap
  syncLength : s.rxSync.length = s.cfg.syncStages
  enableLength : s.rxenSync.length = s.cfg.syncStages
  canonical : Memory.wf s.rxmem = true
  insideCap : ∀ c ∈ s.rxmem, c.1 < s.cfg.rxCap
  written : ∀ a, a < s.wTotal → a < s.cfg.rxCap → (Memory.read? s.rxmem a).isSome = true

/-- The elements the RX side of the invariant is about are the same. -/
def ReceiveKept (s t : State) : Prop :=
  t.cfg = s.cfg ∧ t.rxmem = s.rxmem ∧ t.rxRemain = s.rxRemain ∧ t.rxWgray = s.rxWgray ∧ t.rxenSync = s.rxenSync ∧
  t.rxSync = s.rxSync ∧ t.rxRptr = s.rxRptr ∧ t.wTotal = s.wTotal ∧ t.rTotal = s.rTotal

theorem State.ReceiveInv.of_kept {s t : State} (h : s.ReceiveInv) (hkept : ReceiveKept s t) : t.ReceiveInv := by
  cases s
  cases t
  simp only [ReceiveKept] at hkept
  obtain ⟨rfl, rfl, rfl, rfl, rfl, rfl, rfl, rfl, rfl⟩ := hkept
  exact { h with }

theorem rxWptr_eq_sub (s : State) (hpos : 1 ≤ s.rxRemain) (hle : s.rxRemain ≤ s.cfg.rxCap) :
    rxWptr s = s.cfg.rxCap - s.rxRemain :=
  wrapSub_of_le _ _ _ hle (by omega)

/-- The insert cursor is the count of captures, wrapped (R81 item 6). -/
theorem State.ReceiveInv.rxWptr_eq {s : State} (h : s.ReceiveInv) : rxWptr s = s.wTotal % s.cfg.rxCap := by
  have hlt := Nat.mod_lt s.wTotal (Config.rxCap_pos s.cfg)
  have hremain := h.remain
  rw [rxWptr_eq_sub s (by omega) (by omega)]
  omega

theorem Config.syncStages_pos (c : Config) : 0 < c.syncStages := by
  have h := c.legal
  simp only [paramsLegal, Bool.and_eq_true, decide_eq_true_eq] at h
  omega

/-- What the last stage shows of a wrapped capture count is that count. -/
theorem rxWsync_eq_of_lastStage (s : State) (n : Nat)
    (h : lastStage s.cfg.syncStages s.rxSync 0 = bin2gray (n % s.cfg.rxCap)) : rxWsync s = n % s.cfg.rxCap := by
  rw [rxWsync, h]
  exact gray2bin_bin2gray _ _ (Nat.mod_lt _ (Config.rxCap_pos _))

/-- The `clk` domain sees the producer as it was after the earliest capture count in the synchronizer. -/
theorem State.ReceiveInv.rxWsync_eq {s : State} (h : s.ReceiveInv) :
    ∃ seen, ∃ hne : seen ≠ [], CaptureHistory s.cfg.rxCap s.wTotal s.rTotal s.rxSync seen ∧
      rxWsync s = seen.getLast hne % s.cfg.rxCap := by
  obtain ⟨seen, hhist⟩ := h.history
  have hlen : seen.length = s.cfg.syncStages := hhist.seen_length.trans h.syncLength
  have hpos := Config.syncStages_pos s.cfg
  have hne : seen ≠ [] := List.ne_nil_of_length_pos (by omega)
  refine ⟨seen, hne, hhist, rxWsync_eq_of_lastStage s _ ?_⟩
  rw [lastStage, hhist.codes, ← hlen, List.getLast_eq_getElem]
  simp [List.getElem?_eq_getElem (show seen.length - 1 < seen.length by omega)]

/-! ### The operations that write the RX side -/

/-- A `clk` edge writes the RX side by the shift of the synchronizer alone. -/
theorem State.ReceiveInv.edgeParts {s : State} (h : s.ReceiveInv) : (edgeParts s).ReceiveInv := by
  obtain ⟨seen, hne, hhist, _⟩ := h.rxWsync_eq
  have hshift := hhist.shift (hhist.read_le_written hne)
  rw [← h.gray] at hshift
  have hsync : (syncShift s s).ReceiveInv :=
    { h with history := ⟨_, hshift⟩, syncLength := (shiftIn_length _ _).trans h.syncLength }
  exact hsync.of_kept (by simp [ReceiveKept])

/-- A pop of a ring that is not empty, before the edge parts (R190). -/
theorem State.ReceiveInv.pop {s : State} (h : s.ReceiveInv) (he : rxEmpty s = false) :
    (advanceRptr s s).ReceiveInv := by
  obtain ⟨seen, hne, hhist, hsync⟩ := h.rxWsync_eq
  have hdiffer : seen.getLast hne ≠ s.rTotal := fun hlast => by
    simp [(rxEmpty_iff s).2 (by rw [hsync, h.cursor, hlast])] at he
  have hlast : s.rTotal < seen.getLast hne :=
    Nat.lt_of_le_of_ne (hhist.unread _ (List.getLast_mem hne)) hdiffer.symm
  refine { h with history := ⟨seen, hhist.pop hne hlast⟩, cursor := ?_ }
  simp [wrap, h.cursor]

/-- Popping before the edge parts or after them is the same for the RX side: each reads the state before the edge. -/
theorem receiveKept_edgeParts_advanceRptr (s : State) :
    ReceiveKept (edgeParts (advanceRptr s s)) (advanceRptr s (edgeParts s)) := by
  simp [ReceiveKept]

theorem succ_mod_eq_ite (cap n : Nat) (hcap : 0 < cap) :
    (n + 1) % cap = if n % cap + 1 = cap then 0 else n % cap + 1 := by
  have hlt := Nat.mod_lt n hcap
  rw [← Nat.mod_add_mod]
  split
  · next heq => rw [heq, Nat.mod_self]
  · exact Nat.mod_eq_of_lt (by omega)

/-- A capture (R171). -/
theorem State.ReceiveInv.capture {s : State} (h : s.ReceiveInv) (b : Byte) : (captureByte b s s).ReceiveInv := by
  have hptr := h.rxWptr_eq
  have hlt := Nat.mod_lt s.wTotal (Config.rxCap_pos s.cfg)
  obtain ⟨seen, hhist⟩ := h.history
  refine { h with remain := ?_, gray := ?_, history := ⟨seen, hhist.capture⟩,
                  canonical := Memory.wf_write _ _ _ h.canonical,
                  insideCap := Memory.inside_write _ _ _ _ (hptr ▸ hlt) h.insideCap, written := ?_ }
  · have hremain := h.remain
    simp only [captureByte_rxRemain, captureByte_wTotal, captureByte_cfg, succ_mod_eq_ite _ _ (Config.rxCap_pos s.cfg)]
    split <;> split <;> omega
  · simp [wrap, hptr]
  · intro a ha hcap
    apply Memory.isSome_read?_write
    rcases Nat.lt_succ_iff_lt_or_eq.1 ha with hold | rfl
    · exact .inr (h.written a hold hcap)
    · exact .inl (hptr.trans (Nat.mod_eq_of_lt hcap)).symm

/-- An `rx_clk` edge that captures nothing (R170, R173). -/
theorem State.ReceiveInv.shiftEnable {s : State} (h : s.ReceiveInv) : (shiftEnable s s).ReceiveInv :=
  { h with enableLength := (shiftIn_length _ _).trans h.enableLength }

theorem State.ReceiveInv.rxEdge {s : State} (h : s.ReceiveInv) (v : Bool) (b : Byte) : (rxEdge v b s).ReceiveInv := by
  rcases rxEdge_cases v b s with ⟨_, _, e⟩ | ⟨_, e⟩ <;> rw [e]
  · exact (h.capture b).shiftEnable.of_kept (by simp [ReceiveKept, Machine.shiftEnable, captureByte])
  · exact h.shiftEnable.of_kept (by simp [ReceiveKept])

/-- Every `clk` edge keeps the RX side of the invariant. -/
theorem RegisterEffect.receiveInv {s u : State} {i : Instr} (heffect : RegisterEffect s (edgeParts s) i u)
    (h : s.ReceiveInv) : u.ReceiveInv := by
  cases heffect with
  | pop he _ => exact (h.pop he).edgeParts.of_kept (receiveKept_edgeParts_advanceRptr s)
  | overrunPop he _ => exact (h.pop he).edgeParts.of_kept (receiveKept_edgeParts_advanceRptr s)
  | plain | emptyPop | control | clear | keepTc | accept | drop | arm | noArm =>
    exact h.edgeParts.of_kept (by simp [ReceiveKept])

end Sys2Proof.Machine

/-! The invariant: it holds after reset, and every step keeps it (R81). -/

namespace Sys2Proof.Machine

/-! ### The two sides of the invariant -/

theorem State.Inv.receiveInv {s : State} (h : s.Inv) : s.ReceiveInv := by
  obtain ⟨hpos, hle, hgray, ⟨seen, hcodes, hordered, hunread⟩, hwritten, hread⟩ := h.receive
  have hptr := rxWptr_eq_sub s hpos hle
  exact {
    remain := by rw [hwritten, hptr]; omega
    gray := by rw [hwritten, hgray]
    history := ⟨seen, hcodes, hordered, hunread⟩
    cursor := hread.symm
    syncLength := h.widths.rxSyncLength
    enableLength := h.widths.rxenSyncLength
    canonical := h.storage.rxCanonical
    insideCap := h.storage.rxInside
    written := h.written.rxWritten }

theorem State.Inv.transmitInv {s : State} (h : s.Inv) : s.TransmitInv where
  ins := h.widths.txIns
  ext := h.widths.txExt
  start := h.widths.txStart
  len := h.widths.txLen
  ptr := h.widths.txPtr
  idle := h.transmit.idleRem
  block := fun ha => by
    have hstart := h.transmit.blockStart ha
    have hbelow := h.widths.txExt
    obtain ⟨hne, hlen⟩ := h.transmit.blockLen ha
    have hrem := h.transmit.blockRem ha
    have hptr := h.transmit.blockPtr ha
    exact ⟨hstart, hne, by omega, hrem, by omega, h.transmit.blockUnread ha⟩
  canonical := h.storage.txCanonical
  insideCap := h.storage.txInside
  written := h.written.txWritten

/-- Every stage of the synchronizer holds a code of the ring's width. -/
theorem State.ReceiveInv.stage_lt {s : State} (h : s.ReceiveInv) : ∀ g ∈ s.rxSync, g < s.cfg.rxCap := by
  obtain ⟨seen, hhist⟩ := h.history
  intro g hg
  rw [hhist.codes] at hg
  obtain ⟨n, _, rfl⟩ := List.mem_map.1 hg
  exact bin2gray_lt _ _ (Nat.mod_lt _ (Config.rxCap_pos _))

theorem State.ReceiveInv.receiveOk {s : State} (h : s.ReceiveInv) : s.receiveOk := by
  have hlt := Nat.mod_lt s.wTotal (Config.rxCap_pos s.cfg)
  have hremain := h.remain
  obtain ⟨seen, hcodes, hordered, hunread⟩ := h.history
  exact {
    remainPositive := by omega
    remainAtMost := by omega
    grayOfWptr := by rw [h.gray, h.rxWptr_eq]
    history := ⟨seen, hcodes, hordered, hunread⟩
    writeTotal := h.rxWptr_eq.symm
    readTotal := h.cursor.symm }

/-- `tx_rem` is within its width: 0 while the engine is idle, at most `tx_len` while a block is armed. -/
theorem State.TransmitInv.rem_le {s : State} (h : s.TransmitInv) : s.txRem ≤ s.cfg.txCap := by
  cases ha : s.txActive with
  | false => simp [h.idle ha]
  | true => exact (h.block ha).remaining.trans h.len

theorem State.TransmitInv.transmitOk {s : State} (h : s.TransmitInv) : s.transmitOk where
  idleRem := h.idle
  blockStart := fun ha => (h.block ha).start
  blockLen := fun ha => by
    obtain ⟨hstart, hne, hinside, _, _, _⟩ := h.block ha
    omega
  blockRem := fun ha => (h.block ha).remaining
  blockPtr := fun ha => by
    obtain ⟨hstart, _, _, _, hpointer, _⟩ := h.block ha
    omega
  blockUnread := fun ha => (h.block ha).unread
  countAtMost := ringCount_le_mask _ _ _ (Config.txCap_pos _)

/-- The invariant is that of the RX side and that of the TX side. -/
theorem inv_iff (s : State) : s.Inv ↔ s.ReceiveInv ∧ s.TransmitInv := by
  refine ⟨fun h => ⟨h.receiveInv, h.transmitInv⟩, fun ⟨hrx, htx⟩ => ?_⟩
  exact {
    widths :=
      { rxRemain := hrx.receiveOk.remainAtMost
        rxWgray := hrx.gray ▸ bin2gray_lt _ _ (Nat.mod_lt _ (Config.rxCap_pos _))
        rxSync := hrx.stage_lt
        rxSyncLength := hrx.syncLength
        rxenSyncLength := hrx.enableLength
        rxRptr := hrx.cursor ▸ Nat.mod_lt _ (Config.rxCap_pos _)
        txIns := htx.ins
        txExt := htx.ext
        txStart := htx.start
        txLen := htx.len
        txPtr := htx.ptr
        txRem := htx.rem_le }
    storage := ⟨hrx.canonical, htx.canonical, hrx.insideCap, htx.insideCap⟩
    receive := hrx.receiveOk
    transmit := htx.transmitOk
    written := ⟨hrx.written, htx.written⟩ }

/-! ### Reset -/

theorem receiveInv_resetFor (c : Config) : (State.resetFor c).ReceiveInv where
  remain := by simp [State.resetFor]
  gray := by simp [State.resetFor, bin2gray]
  history := by
    refine ⟨List.replicate c.syncStages 0, ?_, ?_, ?_⟩
    · simp [State.resetFor, bin2gray]
    · simp [State.resetFor, List.pairwise_cons, List.pairwise_replicate]
    · simp [State.resetFor]
  cursor := by simp [State.resetFor]
  syncLength := List.length_replicate
  enableLength := List.length_replicate
  canonical := rfl
  insideCap := by simp [State.resetFor]
  written := by simp [State.resetFor]

theorem transmitInv_resetFor (c : Config) : (State.resetFor c).TransmitInv where
  ins := Config.txCap_pos c
  ext := Config.txCap_pos c
  start := Config.txCap_pos c
  len := Nat.zero_le _
  ptr := Nat.zero_le _
  idle := fun _ => rfl
  block := by simp [State.resetFor]
  canonical := rfl
  insideCap := by simp [State.resetFor]
  written := by
    have hcount : txCount (State.resetFor c) = 0 :=
      (ringCount_eq_zero_iff _ _ _ (Config.txCap_pos c) (Config.txCap_pos c)).2 rfl
    simp [hcount, RingWritten]

theorem inv_resetFor (c : Config) : (State.resetFor c).Inv :=
  (inv_iff _).2 ⟨receiveInv_resetFor c, transmitInv_resetFor c⟩

theorem inv_resetEvent (s : State) : (resetEvent s).Inv :=
  (inv_iff _).2 ⟨(receiveInv_resetFor s.cfg).of_kept (by simp [ReceiveKept, State.resetFor]),
    (transmitInv_resetFor s.cfg).of_kept (by simp [TransmitKept, State.resetFor])⟩

/-- Settles O40. -/
theorem invariantHoldsAfterReset : Obligations.InvariantHoldsAfterReset :=
  ⟨inv_resetFor, inv_resetFor _, fun s => ⟨_, rfl, inv_resetEvent s⟩⟩

/-! ### Steps -/

theorem inv_busErrorEdge (c : BusErrorCause) (d : Desc) (s : State) (h : s.Inv) : (busErrorEdge c d s).Inv := by
  obtain ⟨hrx, htx⟩ := (inv_iff s).1 h
  exact (inv_iff _).2 ⟨hrx.edgeParts.of_kept (by simp [ReceiveKept, busErrorEdge]),
    htx.edgeParts.of_kept (by simp [TransmitKept, busErrorEdge])⟩

theorem inv_takeRequest (r : Request) (rest : List Request) (s : State) (h : s.Inv) : (takeRequest r rest s).Inv := by
  obtain ⟨hrx, htx⟩ := (inv_iff s).1 h
  exact (inv_iff _).2 ⟨hrx.of_kept (by simp [ReceiveKept]), htx.of_kept (by simp [TransmitKept])⟩

theorem inv_rxEdge (v : Bool) (b : Byte) (s : State) (h : s.Inv) : (rxEdge v b s).Inv := by
  obtain ⟨hrx, htx⟩ := (inv_iff s).1 h
  refine (inv_iff _).2 ⟨hrx.rxEdge v b, htx.of_kept ?_⟩
  rcases rxEdge_cases v b s with ⟨_, _, e⟩ | ⟨_, e⟩ <;> simp [e, TransmitKept]

/-- Every operation keeps the invariant. -/
theorem exec_inv (i : Instr) (s t : State) (hinv : s.Inv) (h : exec i s = .next t) : t.Inv := by
  cases hclk : isClkEdge i with
  | true =>
    obtain ⟨hrx, htx⟩ := (inv_iff s).1 hinv
    obtain ⟨u, answer, heffect, rfl⟩ := exec_clkEdge_next i s t hclk h
    exact (inv_iff _).2 ⟨(heffect.receiveInv hrx).of_kept (by simp [ReceiveKept]),
      (heffect.transmitInv htx).of_kept (by simp [TransmitKept])⟩
  | false =>
    rcases eq_evRx_or_evReset i hclk with ⟨v, b, rfl⟩ | rfl
    · obtain rfl := Host.Outcome.next.inj h
      exact inv_rxEdge v b s hinv
    · obtain rfl := Host.Outcome.next.inj h
      exact inv_resetEvent s

/-- Settles O41: the two sides of the invariant are kept apart, each by the few operations that write it, and every step is
one operation or the edge of a bus error. -/
theorem everyStepKeepsTheInvariant : Obligations.EveryStepKeepsTheInvariant := by
  intro s t hinv h
  rcases step_cases s with ⟨_, hr⟩ | ⟨r, rest, _, ⟨i, _, hi⟩ | ⟨c, _, hb⟩ | ⟨why, _, hr⟩⟩
  · simp [hr] at h
  · exact exec_inv i _ t (inv_takeRequest r rest s hinv) (hi.symm.trans h)
  · obtain rfl := Host.Outcome.next.inj (hb.symm.trans h)
    exact inv_busErrorEdge c r.desc _ (inv_takeRequest r rest s hinv)
  · simp [hr] at h

end Sys2Proof.Machine

/-! Which descriptor an operation was decoded from: the encoded one (R121, R122, R129). -/

namespace Sys2Proof

/-- A descriptor is its CLASS, its SIZE and its OFFSET (R120, R121). -/
theorem Desc.eq_append_fields (d : Desc) : d = Desc.cls d ++ Desc.size d ++ Desc.offset d := by
  rw [Desc.cls, Desc.size, Desc.offset,
    BitVec.extractLsb'_append_extractLsb'_eq_extractLsb' (by rfl : 14 = 12 + 2),
    BitVec.extractLsb'_append_extractLsb'_eq_extractLsb' (by rfl : 12 = 0 + 12)]
  simp

/-- A register is found at its own offset only (R125). -/
theorem Reg.offset_of_ofOffset? (off : BitVec 12) (r : Reg) (h : Reg.ofOffset? off = some r) : r.offset = off := by
  simpa using List.find?_some h

/-- A legal transaction has SIZE 0b10 and the OFFSET of its register (R262). -/
theorem checkTransaction_eq_ok (size : BitVec 2) (off : BitVec 12) (r : Reg) (h : checkTransaction size off = .ok r) :
    size = 0b10#2 ∧ r.offset = off := by
  unfold checkTransaction at h
  split at h
  · cases h
  split at h
  · cases h
  split at h
  · cases h
  next hsize _ =>
    split at h
    · next r' hr =>
      obtain rfl := Except.ok.inj h
      exact ⟨not_not.1 hsize, Reg.offset_of_ofOffset? off _ hr⟩
    · cases h

theorem decodeBus_eq_instr (d : Desc) (access : Reg → Instr) (i : Instr) (h : decodeBus d access = .instr i) :
    ∃ r, i = access r ∧ d = Desc.cls d ++ 0b10#2 ++ r.offset := by
  unfold decodeBus at h
  split at h
  · next r hcheck =>
    obtain ⟨hsize, hoffset⟩ := checkTransaction_eq_ok _ _ r hcheck
    refine ⟨r, (Decoded.instr.inj h).symm, ?_⟩
    rw [hoffset, ← hsize]
    exact Desc.eq_append_fields d
  · cases h

theorem encode_readInstr (r : Reg) : (encode (readInstr r)).1 = readDesc r := by cases r <;> rfl

theorem encode_writeInstr (r : Reg) (w : Word) : (encode (writeInstr r w)).1 = writeDesc r := by cases r <;> rfl

/-- The descriptor of event RX, put together from the fields of its ARG (R127). -/
theorem append_rxFields (arg : BitVec 12) (h : arg.extractLsb' 9 3 = 0#3) :
    0b10#2 ++ 0b01#2 ++ 0#3 ++ BitVec.ofBool (arg.getLsbD 8) ++ arg.extractLsb' 0 8 = 0b10#2 ++ 0b01#2 ++ arg := by
  rw [← h]
  ext j hj
  simp only [BitVec.getElem_append, BitVec.getElem_extractLsb', BitVec.getElem_ofBool]
  grind

/-- An event with a legal ARG is its operation, any other is refused (R130). -/
theorem guard_eq_instr (p : Prop) [Decidable p] (j i : Instr) (why : DescError)
    (h : (if p then .instr j else .refused why : Decoded) = .instr i) : p ∧ j = i := by
  split at h
  · exact ⟨‹p›, Decoded.instr.inj h⟩
  · cases h

theorem encode_of_decodeEvent (d : Desc) (i : Instr) (hcls : Desc.cls d = 0b10#2) (h : decodeEvent d = .instr i) :
    (encode i).1 = d := by
  have hd : d = 0b10#2 ++ Desc.evt d ++ Desc.arg d := hcls ▸ Desc.eq_append_fields d
  unfold decodeEvent at h
  split at h
  · next hevt =>
    obtain ⟨harg, rfl⟩ := guard_eq_instr _ _ _ _ h
    rw [hevt, harg] at hd
    exact hd.symm
  split at h
  · next hevt =>
    obtain ⟨harg, rfl⟩ := guard_eq_instr _ _ _ _ h
    rw [hevt] at hd
    exact (append_rxFields (Desc.arg d) harg).trans hd.symm
  split at h
  · next hevt =>
    obtain ⟨harg, rfl⟩ := guard_eq_instr _ _ _ _ h
    rw [hevt, harg] at hd
    exact hd.symm
  · cases h

/-- Every operation is decoded from its encoded descriptor and from no other. -/
theorem encode_of_decode (d : Desc) (w : Word) (i : Instr) (h : decode d w = .instr i) : (encode i).1 = d := by
  unfold decode at h
  split at h
  · next hcls =>
    obtain ⟨r, rfl, hd⟩ := decodeBus_eq_instr d _ i h
    rw [encode_readInstr, hd, hcls]
    rfl
  split at h
  · next hcls =>
    obtain ⟨r, rfl, hd⟩ := decodeBus_eq_instr d _ i h
    rw [encode_writeInstr, hd, hcls]
    rfl
  split at h
  · next hcls => exact encode_of_decodeEvent d i hcls h
  · cases h

end Sys2Proof

/-! The bytes of a ring in the order of their slots, and the two rings' contents in that form. -/

namespace Sys2Proof.Machine

/-- The `n` bytes of a ring from the position `e`, oldest first. -/
def ringBytes (byteAt : Nat → Byte) (cap e n : Nat) : List Byte := (List.range n).map fun k => byteAt ((e + k) % cap)

section RingBytes
variable (byteAt byteAt' : Nat → Byte) (cap e n : Nat)

/-- The newest byte is the last. -/
theorem ringBytes_succ : ringBytes byteAt cap e (n + 1) = ringBytes byteAt cap e n ++ [byteAt ((e + n) % cap)] := by
  simp [ringBytes, List.range_succ]

/-- The oldest byte is the first. -/
theorem ringBytes_succ_eq_cons :
    ringBytes byteAt cap e (n + 1) = byteAt (e % cap) :: ringBytes byteAt cap (e + 1) n := by
  simp [ringBytes, List.range_succ_eq_map, Function.comp_def, Nat.add_assoc, Nat.add_comm 1]

theorem ringBytes_mod : ringBytes byteAt cap (e % cap) n = ringBytes byteAt cap e n := by
  simp [ringBytes]

theorem ringBytes_congr (h : ∀ k < n, byteAt ((e + k) % cap) = byteAt' ((e + k) % cap)) :
    ringBytes byteAt cap e n = ringBytes byteAt' cap e n :=
  List.map_congr_left fun k hk => h k (List.mem_range.1 hk)

/-- Fewer bytes than the capacity stand in different slots, and none of them in the slot after the newest. -/
theorem ring_slot_ne (k : Nat) (hk : k < n) (hn : n < cap) : (e + k) % cap ≠ (e + n) % cap := by
  intro h
  have hmod : k % cap = n % cap := Nat.ModEq.add_left_cancel' e h
  rw [Nat.mod_eq_of_lt (hk.trans hn), Nat.mod_eq_of_lt hn] at hmod
  omega

/-- A write into the slot after the newest byte appends to the ring: the slots of its bytes are other ones. -/
theorem ringBytes_snoc (b : Byte) (hn : n < cap) (hnew : byteAt' ((e + n) % cap) = b)
    (hold : ∀ a, a ≠ (e + n) % cap → byteAt' a = byteAt a) :
    ringBytes byteAt' cap e (n + 1) = ringBytes byteAt cap e n ++ [b] := by
  rw [ringBytes_succ, hnew]
  exact congrArg (· ++ [b]) (ringBytes_congr _ _ _ _ _ fun k hk => hold _ (ring_slot_ne cap e n k hk hn))

end RingBytes

theorem rxUnread_eq (s : State) :
    rxUnread s = ringBytes (rxByte s) s.cfg.rxCap s.rxRptr (s.wTotal - s.rTotal) := rfl

theorem txUnsent_eq (s : State) :
    txUnsent s = ringBytes (txByte s) s.cfg.txCap (s.txExt + txSent s) (txCount s - txSent s) := rfl

end Sys2Proof.Machine

/-! What a completed step was. -/

namespace Sys2Proof.Machine

/-- A step that answers a next state performed the operation its request decodes to, or the edge of a bus error. -/
theorem step_next_cases (s t : State) (r : Request) (rest : List Request) (hscript : s.script = r :: rest)
    (h : step s = .next t) :
    (∃ i, decode r.desc r.wdata = .instr i ∧ exec i (takeRequest r rest s) = .next t) ∨
    ∃ c, decode r.desc r.wdata = .busError c ∧ t = busErrorEdge c r.desc (takeRequest r rest s) := by
  rcases step_cases s with ⟨hs, _⟩ | ⟨r', rest', hs, hcases⟩
  · simp [hscript] at hs
  · obtain ⟨rfl, rfl⟩ := List.cons.inj (hscript.symm.trans hs)
    rcases hcases with ⟨i, hdecode, hi⟩ | ⟨c, hdecode, hb⟩ | ⟨why, _, hr⟩
    · exact .inl ⟨i, hdecode, hi.symm.trans h⟩
    · exact .inr ⟨c, hdecode, Host.Outcome.next.inj (h.symm.trans hb)⟩
    · simp [hr] at h

end Sys2Proof.Machine

/-! The TX ring as a queue (R102, R221, R226): the engine moves bytes from the ring to the transmitted stream, and an
accepted TXDATA write is the one operation that adds one. -/

namespace Sys2Proof.Machine

/-- Every byte accepted since the stream began: the transmitted ones, then the unsent ones, oldest first. -/
def txTraffic (s : State) : List Byte := s.txStream ++ txUnsent s

theorem txTraffic_of_kept {s t : State} (hkept : TransmitKept s t) (hresets : t.resets = s.resets)
    (hstream : t.txStream = s.txStream) : txTraffic t = txTraffic s := by
  cases s
  cases t
  simp only [TransmitKept] at hkept hresets hstream
  obtain ⟨rfl, rfl, rfl, rfl, rfl, rfl, rfl, rfl, rfl⟩ := hkept
  obtain rfl := hresets
  obtain rfl := hstream
  rfl

/-! ### How much of the armed block has left -/

theorem txSent_of_idle (s : State) (h : s.txActive = false) : txSent s = 0 := by simp [txSent, h]

theorem txSent_of_active (s : State) (h : s.txActive = true) : txSent s = s.txLen - s.txRem := by simp [txSent, h]

theorem txSent_armBlock (e i : Nat) (post : State) : txSent (armBlock e i post) = 0 := by simp [txSent]

theorem State.TransmitInv.txSent_le {s : State} (h : s.TransmitInv) : txSent s ≤ txCount s := by
  cases ha : s.txActive with
  | false => simp [txSent_of_idle s ha]
  | true =>
    have hunread := (h.block ha).unread
    rw [txSent_of_active s ha]
    omega

/-- While a block is armed, the transfer pointer stands after the bytes that have left. -/
theorem State.TransmitInv.txPtr_eq {s : State} (h : s.TransmitInv) (ha : s.txActive = true) :
    s.txPtr = s.txExt + txSent s := by
  obtain ⟨_, _, _, hremaining, hpointer, _⟩ := h.block ha
  rw [txSent_of_active s ha]
  omega

/-! ### The engine -/

/-- The handshake moves the oldest unsent byte to the stream (R220, R221). -/
theorem State.TransmitInv.txTraffic_handshake {s : State} (h : s.TransmitInv) (hv : txValidO s = true) :
    txTraffic (Machine.handshake s s) = txTraffic s := by
  obtain ⟨hactive, hrem⟩ := (txValidO_iff s).1 hv
  obtain ⟨_, _, hinside, hremaining, hpointer, hunread⟩ := h.block hactive
  have hptr := h.txPtr_eq hactive
  have hsent := txSent_of_active s hactive
  have hsent' : txSent (Machine.handshake s s) = txSent s + 1 := by
    rw [hsent, txSent_of_active (Machine.handshake s s) hactive, handshake_txLen, handshake_txRem]
    omega
  have hcount : txCount s - txSent s = txCount s - (txSent s + 1) + 1 := by omega
  have hslot : (s.txExt + txSent s) % s.cfg.txCap = s.txPtr := by
    rw [← hptr]
    exact Nat.mod_eq_of_lt (by omega)
  rw [txTraffic, txTraffic, txUnsent_eq, txUnsent_eq, hsent', hcount, ringBytes_succ_eq_cons, hslot,
    handshake_txStream, List.append_assoc]
  rfl

/-- The completion step gives up the slots of bytes that have all left (R222). -/
theorem State.TransmitInv.txTraffic_completion {s : State} (h : s.TransmitInv) (hd : txDone s = true) :
    txTraffic (goIdle (reportCompletion s s)) = txTraffic s := by
  obtain ⟨hactive, hrem⟩ := (txDone_iff s).1 hd
  have hsent : txSent s = s.txLen := by rw [txSent_of_active s hactive, hrem, Nat.sub_zero]
  have hcount : txCount (goIdle (reportCompletion s s)) = txCount s - s.txLen := h.txCount_reportCompletion hd
  rw [txTraffic, txTraffic, txUnsent_eq, txUnsent_eq, txSent_of_idle _ (goIdle_txActive _), hcount, hsent,
    goIdle_txExt, reportCompletion_txExt, h.completedOffset_eq hd, Nat.add_zero, Nat.sub_zero]
  exact congrArg (s.txStream ++ ·) (ringBytes_mod _ _ _ _)

/-- Arming a block from idle moves no byte (R224). -/
theorem txTraffic_armBlock (e i : Nat) (s : State) (hidle : s.txActive = false) :
    txTraffic (armBlock e i s) = txTraffic s := by
  rw [txTraffic, txTraffic, txUnsent_eq, txUnsent_eq, txSent_armBlock, txSent_of_idle s hidle]
  rfl

theorem State.TransmitInv.txTraffic_edgeParts {s : State} (h : s.TransmitInv) :
    txTraffic (Machine.edgeParts s) = txTraffic s := by
  rw [Machine.edgeParts]
  rcases engineEdge_cases s (syncShift s s) with ⟨hd, _, e⟩ | ⟨hd, _, e⟩ | ⟨_, hv, _, e⟩ | ⟨_, _, e⟩ <;> rw [e]
  · exact (txTraffic_of_kept (by simp [TransmitKept]) rfl rfl).trans (h.txTraffic_completion hd)
  · calc txTraffic (armBlock (completedOffset s) s.txIns (reportCompletion s (syncShift s s)))
        = txTraffic (armBlock (completedOffset s) s.txIns (goIdle (reportCompletion s s))) :=
          txTraffic_of_kept (by simp [TransmitKept]) rfl rfl
      _ = txTraffic (goIdle (reportCompletion s s)) := txTraffic_armBlock _ _ _ rfl
      _ = txTraffic s := h.txTraffic_completion hd
  · exact (txTraffic_of_kept (by simp [TransmitKept]) rfl rfl).trans (h.txTraffic_handshake hv)
  · exact txTraffic_of_kept (by simp [TransmitKept]) rfl rfl

/-! ### The transactions -/

/-- An accepted byte goes behind the unsent ones (R210). -/
theorem State.TransmitInv.txTraffic_acceptByte {s : State} (h : s.TransmitInv) (b : Byte)
    (hroom : txCount s + 1 < s.cfg.txCap) : txTraffic (acceptByte b s s) = txTraffic s ++ [b] := by
  have hsent := h.txSent_le
  have hcount : txCount (acceptByte b s s) = txCount s + 1 := ringCount_insert _ _ _ h.ins h.ext hroom
  have hslot : (s.txExt + txSent s + (txCount s - txSent s)) % s.cfg.txCap = s.txIns := by
    rw [show s.txExt + txSent s + (txCount s - txSent s) = s.txExt + txCount s by omega]
    exact add_ringCount_mod _ _ _ h.ins h.ext
  have hunsent : txUnsent (acceptByte b s s) = txUnsent s ++ [b] := by
    have hsucc : txCount s + 1 - txSent s = txCount s - txSent s + 1 := by omega
    rw [txUnsent_eq, txUnsent_eq, hcount, show txSent (acceptByte b s s) = txSent s from rfl, hsucc, acceptByte_cfg,
      acceptByte_txExt]
    refine ringBytes_snoc _ _ _ _ _ b (by omega) ?_ fun a ha => ?_
    · rw [hslot]
      simp [txByte, Memory.read?_write_same]
    · rw [hslot] at ha
      simp [txByte, Memory.read?_write_other _ _ _ _ ha]
  rw [txTraffic, hunsent, ← List.append_assoc]
  rfl

/-- A ring that is not full before the edge has room for one byte more after the edge parts. -/
theorem State.TransmitInv.room_edgeParts {s : State} (h : s.TransmitInv) (hfull : txFull s = false) :
    txCount (Machine.edgeParts s) + 1 < (Machine.edgeParts s).cfg.txCap := by
  have hle := h.txCount_edgeParts_le
  have hroom := h.room hfull
  rw [edgeParts_cfg]
  omega

theorem txAccepted_of_plain (i : Instr) (s : State) (hi : isPlain i = true ∨ i = .evClk) : txAccepted i s = [] := by
  cases i with
  | wrTxdata v => rcases hi with hi | hi <;> cases hi
  | _ => rfl

/-- Only an accepted TXDATA write puts a byte into the ring. -/
theorem RegisterEffect.txTraffic_eq {s u : State} {i : Instr} (heffect : RegisterEffect s (edgeParts s) i u)
    (h : s.TransmitInv) : txTraffic u = txTraffic s ++ txAccepted i s := by
  have hedge := h.txTraffic_edgeParts
  cases heffect with
  | accept v hfull =>
    calc txTraffic (acceptByte (txdataByte v) s (edgeParts s))
        = txTraffic (acceptByte (txdataByte v) (edgeParts s) (edgeParts s)) :=
          txTraffic_of_kept (by simp [TransmitKept]) (by simp) rfl
      _ = txTraffic (edgeParts s) ++ [txdataByte v] := h.edgeParts.txTraffic_acceptByte _ (h.room_edgeParts hfull)
      _ = txTraffic s ++ txAccepted (.wrTxdata v) s := by simp [hedge, txAccepted, hfull]
  | drop v hfull =>
    calc txTraffic (dropByte (edgeParts s)) = txTraffic (edgeParts s) := rfl
      _ = txTraffic s ++ txAccepted (.wrTxdata v) s := by simp [hedge, txAccepted, hfull]
  | arm v hidle _ =>
    calc txTraffic (armBlock s.txExt s.txIns (edgeParts s))
        = txTraffic (edgeParts s) := txTraffic_armBlock _ _ _ (by simp [edgeParts_of_idle s hidle, hidle])
      _ = txTraffic s ++ txAccepted (.wrTxkick v) s := by simp [hedge, txAccepted]
  | plain _ hplain => rw [hedge, txAccepted_of_plain i s hplain, List.append_nil]
  | emptyPop | pop | overrunPop | control | clear | keepTc | noArm =>
    exact (txTraffic_of_kept (by simp [TransmitKept]) (by simp) rfl).trans (hedge.trans (List.append_nil _).symm)

/-! ### A step -/

theorem txTraffic_rxEdge (v : Bool) (b : Byte) (s : State) : txTraffic (rxEdge v b s) = txTraffic s := by
  rcases rxEdge_cases v b s with ⟨_, _, e⟩ | ⟨_, e⟩ <;> rw [e] <;> rfl

theorem txTraffic_exec (i : Instr) (s t : State) (hinv : s.TransmitInv) (hi : i ≠ .evReset)
    (h : exec i s = .next t) : txTraffic t = txTraffic s ++ txAccepted i s := by
  cases hclk : isClkEdge i with
  | true =>
    obtain ⟨u, answer, heffect, rfl⟩ := exec_clkEdge_next i s t hclk h
    exact heffect.txTraffic_eq hinv
  | false =>
    obtain ⟨v, b, rfl⟩ := (eq_evRx_or_evReset i hclk).resolve_right hi
    obtain rfl := Host.Outcome.next.inj h
    simpa [txAccepted] using txTraffic_rxEdge v b s

/-- Settles O42: `txTraffic` is kept by the engine, which only moves bytes along it, and grows by the byte of an
accepted TXDATA write. -/
theorem transmitRingIsFifo : Obligations.TransmitRingIsFifo := by
  intro s t r rest hinv hscript hreset h
  have htx := (inv_takeRequest r rest s hinv).transmitInv
  rcases step_next_cases s t r rest hscript h with ⟨i, hdecode, hi⟩ | ⟨c, hdecode, rfl⟩
  · have hne : i ≠ .evReset := by
      rintro rfl
      exact hreset (encode_of_decode _ _ _ hdecode).symm
    have haccepted : txAcceptedBy r s = txAccepted i (takeRequest r rest s) := by
      rw [txAcceptedBy, hdecode]
      rfl
    rw [haccepted]
    exact txTraffic_exec i (takeRequest r rest s) t htx hne hi
  · have haccepted : txAcceptedBy r s = [] := by rw [txAcceptedBy, hdecode]
    rw [haccepted, List.append_nil]
    exact htx.txTraffic_edgeParts

end Sys2Proof.Machine

/-! The RX ring as a queue (R102, R190, R191), and what the `clk` domain sees of it (R101). -/

namespace Sys2Proof.Machine

/-! ### What the `clk` domain sees -/

/-- The count between two wrapped totals is their difference, wrapped. -/
theorem ringCount_mod (cap n m : Nat) (hcap : 0 < cap) (hle : m ≤ n) :
    ringCount cap (n % cap) (m % cap) = (n - m) % cap := by
  refine ringCount_eq_of_add_mod cap _ _ _ (Nat.mod_lt _ hcap) (Nat.mod_lt _ hcap) (Nat.mod_lt _ hcap) ?_
  rw [← Nat.add_mod, Nat.add_sub_cancel' hle]

/-- Settles O39: the position seen is that of the earliest capture count in the synchronizer, which stands between
`R_total` and `W_total`. -/
theorem visibleCountNeverExceedsTrueCount : Obligations.VisibleCountNeverExceedsTrueCount := by
  intro s hinv
  have hrx := hinv.receiveInv
  obtain ⟨seen, hne, hhist, hsync⟩ := hrx.rxWsync_eq
  have hread : s.rTotal ≤ seen.getLast hne := hhist.unread _ (List.getLast_mem hne)
  have hwritten : seen.getLast hne ≤ s.wTotal := hhist.le_written _ (List.getLast_mem hne)
  have hcount : rxCount s = (seen.getLast hne - s.rTotal) % s.cfg.rxCap := by
    rw [rxCount, hsync, hrx.cursor, ringCount_mod _ _ _ (Config.rxCap_pos s.cfg) hread]
  have hle := Nat.mod_le (seen.getLast hne - s.rTotal) s.cfg.rxCap
  exact ⟨by omega, by omega, _, hread, hwritten, hsync⟩

/-! ### The operations that write the unread range -/

theorem State.ReceiveInv.rTotal_le {s : State} (h : s.ReceiveInv) : s.rTotal ≤ s.wTotal := by
  obtain ⟨_, hne, hhist, _⟩ := h.rxWsync_eq
  exact hhist.read_le_written hne

/-- A ring that does not look empty holds an unread byte. -/
theorem State.ReceiveInv.rTotal_lt {s : State} (h : s.ReceiveInv) (he : rxEmpty s = false) : s.rTotal < s.wTotal :=
  (h.pop he).rTotal_le

/-- A capture with room behind the unread bytes appends its byte to them (R171). -/
theorem State.ReceiveInv.rxUnread_captureByte {s : State} (h : s.ReceiveInv) (b : Byte)
    (hroom : s.wTotal - s.rTotal < s.cfg.rxCap) : rxUnread (captureByte b s s) = rxUnread s ++ [b] := by
  have hle := h.rTotal_le
  have hslot : (s.rxRptr + (s.wTotal - s.rTotal)) % s.cfg.rxCap = rxWptr s := by
    rw [h.rxWptr_eq, h.cursor, Nat.mod_add_mod, Nat.add_sub_cancel' hle]
  have hsucc : s.wTotal + 1 - s.rTotal = s.wTotal - s.rTotal + 1 := by omega
  rw [rxUnread_eq, rxUnread_eq, captureByte_wTotal, captureByte_rTotal, captureByte_rxRptr, captureByte_cfg, hsucc]
  refine ringBytes_snoc _ _ _ _ _ b hroom ?_ fun a ha => ?_
  · rw [hslot]
    simp [rxByte, Memory.read?_write_same]
  · rw [hslot] at ha
    simp [rxByte, Memory.read?_write_other _ _ _ _ ha]

/-- A pop takes the byte at the cursor, the oldest one (R190). -/
theorem State.ReceiveInv.rxUnread_advanceRptr {s : State} (h : s.ReceiveInv) (he : rxEmpty s = false) :
    rxUnread s = rxByte s s.rxRptr :: rxUnread (advanceRptr s s) := by
  have hlt := h.rTotal_lt he
  have hslot : s.rxRptr % s.cfg.rxCap = s.rxRptr := by rw [h.cursor, Nat.mod_mod]
  have hcount : s.wTotal - s.rTotal = s.wTotal - (s.rTotal + 1) + 1 := by omega
  rw [rxUnread_eq, hcount, ringBytes_succ_eq_cons, hslot, ← ringBytes_mod]
  rfl

theorem rxOverrun_eq_false (s : State) (h : s.noOverrun) : rxOverrun s = false := by
  simpa [rxOverrun, State.noOverrun] using h

/-! ### A step -/

/-- The elements the unread bytes are read from are the same. -/
theorem rxUnread_of_kept {s t : State} (hcfg : t.cfg = s.cfg) (hmem : t.rxmem = s.rxmem) (hresets : t.resets = s.resets)
    (hrptr : t.rxRptr = s.rxRptr) (hw : t.wTotal = s.wTotal) (hr : t.rTotal = s.rTotal) : rxUnread t = rxUnread s := by
  simp [rxUnread, rxByte, hcfg, hmem, hresets, hrptr, hw, hr]

theorem rxUnread_edgeParts (s : State) : rxUnread (edgeParts s) = rxUnread s := by
  apply rxUnread_of_kept <;> simp

/-- No register part but that of an RXDATA read touches the unread bytes. -/
theorem RegisterEffect.rxUnread_eq {pre post u : State} {i : Instr} (h : RegisterEffect pre post i u)
    (hi : i ≠ .rdRxdata) : rxUnread u = rxUnread post := by
  cases h with
  | emptyPop | pop | overrunPop => exact absurd rfl hi
  | _ => rfl

theorem State.ReceiveInv.rxUnread_rxEdge {s : State} (h : s.ReceiveInv) (v : Bool) (b : Byte)
    (hroom : (Machine.rxEdge v b s).noOverrun) :
    rxUnread (Machine.rxEdge v b s) = rxUnread s ++ rxCaptured (.evRx v b) s := by
  have hcap := Config.rxCap_pos s.cfg
  rcases rxEdge_cases v b s with ⟨hv, hen, e⟩ | ⟨hno, e⟩
  · have hcapture : rxUnread (Machine.rxEdge v b s) = rxUnread (captureByte b s s) := by rw [e]; rfl
    have hlt : s.wTotal - s.rTotal < s.cfg.rxCap := by
      rw [e] at hroom
      simp [State.noOverrun, Config.rxMask] at hroom
      omega
    rw [hcapture, h.rxUnread_captureByte b hlt]
    simp [rxCaptured, hv, hen]
  · have hnone : rxCaptured (.evRx v b) s = [] := by rcases hno with hno | hno <;> simp [rxCaptured, hno]
    rw [e, hnone, List.append_nil]
    rfl

/-- No `clk` edge captures a byte. -/
theorem rxCaptured_of_clkEdge (i : Instr) (s : State) (hi : isClkEdge i = true) : rxCaptured i s = [] := by
  cases i with
  | evRx v b => cases hi
  | _ => rfl

/-- Every operation but an RXDATA read appends its captured byte to the unread ones. -/
theorem rxUnread_exec (i : Instr) (s t : State) (hinv : s.ReceiveInv) (hroom : t.noOverrun) (hreset : i ≠ .evReset)
    (hread : i ≠ .rdRxdata) (h : exec i s = .next t) : rxUnread t = rxUnread s ++ rxCaptured i s := by
  cases hclk : isClkEdge i with
  | true =>
    obtain ⟨u, answer, heffect, rfl⟩ := exec_clkEdge_next i s t hclk h
    rw [rxCaptured_of_clkEdge i s hclk, List.append_nil]
    exact (heffect.rxUnread_eq hread).trans (rxUnread_edgeParts s)
  | false =>
    obtain ⟨v, b, rfl⟩ := (eq_evRx_or_evReset i hclk).resolve_right hreset
    obtain rfl := Host.Outcome.next.inj h
    exact hinv.rxUnread_rxEdge v b hroom

/-- An RXDATA read of a ring that looks empty leaves the unread bytes (R190). -/
theorem rxUnread_rdRxdata_of_empty (s t : State) (he : rxEmpty s = true) (h : exec .rdRxdata s = .next t) :
    rxUnread t = rxUnread s := by
  obtain rfl := Host.Outcome.next.inj h
  rw [popRx, if_pos he]
  exact rxUnread_edgeParts s

/-- An RXDATA read without overrun answers the oldest unread byte and removes it (R190, R191). -/
theorem State.ReceiveInv.rdRxdata_answers_oldest {s t : State} (hinv : s.ReceiveInv) (ho : s.noOverrun)
    (he : rxEmpty s = false) (h : exec .rdRxdata s = .next t) :
    t.resp = some ⟨(rxByte s s.rxRptr).zeroExtend 32, false⟩ ∧ rxUnread s = rxByte s s.rxRptr :: rxUnread t := by
  obtain rfl := Host.Outcome.next.inj h
  have hover := rxOverrun_eq_false s ho
  have hpop : popRx s (Machine.edgeParts s) = advanceRptr s (Machine.edgeParts s) := by simp [popRx, he, hover]
  have hunread : rxUnread (advanceRptr s (Machine.edgeParts s)) = rxUnread (advanceRptr s s) := by
    apply rxUnread_of_kept <;> simp
  constructor
  · simp [rxdataWord, rxPopByte, zextByte, he, hover]
  · rw [hinv.rxUnread_advanceRptr he, hpop, ← hunread]
    rfl

/-- The descriptor of an RXDATA read (R129). -/
theorem decode_rdRxdata (w : Word) : decode 0x2008#16 w = .instr .rdRxdata := rfl

/-- Settles O43: the descriptor alone tells whether the step is an RXDATA read, a reset or neither, since every
operation is decoded from its encoded descriptor (`encode_of_decode`). -/
theorem receiveRingIsFifo : Obligations.ReceiveRingIsFifo := by
  intro s t r rest hinv hs ht hscript hreset h
  have hrx := (inv_takeRequest r rest s hinv).receiveInv
  rcases step_next_cases s t r rest hscript h with ⟨i, hdecode, hi⟩ | ⟨c, hdecode, rfl⟩
  · have hdesc := encode_of_decode _ _ _ hdecode
    have hread : r.desc = 0x2008#16 → i = .rdRxdata := fun hd =>
      Decoded.instr.inj (hdecode.symm.trans (hd ▸ decode_rdRxdata r.wdata))
    refine ⟨fun hd => ?_, fun hd he => ?_, fun hd he => ?_⟩
    · have hcaptured : rxCapturedBy r s = rxCaptured i (takeRequest r rest s) := by
        rw [rxCapturedBy, hdecode]
        rfl
      have hne : i ≠ .evReset := by
        rintro rfl
        exact hreset hdesc.symm
      have hne' : i ≠ .rdRxdata := by
        rintro rfl
        exact hd hdesc.symm
      rw [hcaptured]
      exact rxUnread_exec i (takeRequest r rest s) t hrx ht hne hne' hi
    · obtain rfl := hread hd
      exact rxUnread_rdRxdata_of_empty (takeRequest r rest s) t he hi
    · obtain rfl := hread hd
      exact ⟨_, hrx.rdRxdata_answers_oldest hs he hi⟩
  · have hd : r.desc ≠ 0x2008#16 := by
      intro hd
      rw [hd, decode_rdRxdata] at hdecode
      cases hdecode
    have hcaptured : rxCapturedBy r s = [] := by rw [rxCapturedBy, hdecode]
    refine ⟨fun _ => ?_, fun h' => absurd h' hd, fun h' => absurd h' hd⟩
    rw [hcaptured, List.append_nil]
    exact rxUnread_edgeParts (takeRequest r rest s)

end Sys2Proof.Machine

/-! The one writer of each cursor, enable, flag and storage (R103), at a `clk` edge and at an `rx_clk` edge. -/

namespace Sys2Proof.Machine

/-- Only a completion step moves the TX extract cursor (R47). -/
theorem edgeParts_txExt (s : State) (h : txDone s = false) : (edgeParts s).txExt = s.txExt := by
  rcases engineEdge_cases s (syncShift s s) with ⟨hd, _, _⟩ | ⟨hd, _, _⟩ | ⟨_, _, _, e⟩ | ⟨_, _, e⟩
  · simp [h] at hd
  · simp [h] at hd
  · simp [edgeParts, e]
  · simp [edgeParts, e]

/-! ### A `clk` edge -/

section ClkEdge
variable {s u : State} {i : Instr}

/-- No `clk` edge writes the RX producer or RX storage (R37, R38, R40). -/
theorem RegisterEffect.receiveSide_kept (h : RegisterEffect s (edgeParts s) i u) :
    u.rxRemain = s.rxRemain ∧ u.rxWgray = s.rxWgray ∧ u.rxmem = s.rxmem := by
  cases h <;> simp

/-- Only a pop moves the RX extract cursor (R43). -/
theorem RegisterEffect.rxRptr_writer (h : RegisterEffect s (edgeParts s) i u) :
    u.rxRptr = s.rxRptr ∨ i = .rdRxdata ∧ rxEmpty s = false := by
  cases h with
  | pop he _ => exact .inr ⟨rfl, he⟩
  | overrunPop he _ => exact .inr ⟨rfl, he⟩
  | _ => exact .inl (edgeParts_rxRptr s)

/-- Only an accepted TXDATA write moves the TX insert cursor or writes TX storage (R45, R46). -/
theorem RegisterEffect.txRing_writer (h : RegisterEffect s (edgeParts s) i u) :
    u.txIns = s.txIns ∧ u.txmem = s.txmem ∨ (∃ v, i = .wrTxdata v) ∧ txFull s = false := by
  cases h with
  | accept v hroom => exact .inr ⟨⟨v, rfl⟩, hroom⟩
  | _ => exact .inl ⟨edgeParts_txIns s, edgeParts_txmem s⟩

/-- No register part moves the TX extract cursor, so only a completion step does (R47). -/
theorem RegisterEffect.txExt_writer (h : RegisterEffect s (edgeParts s) i u) (hd : txDone s = false) :
    u.txExt = s.txExt := by
  cases h <;> exact edgeParts_txExt s hd

/-- Only a CTRL write writes CTRL (R50). -/
theorem RegisterEffect.ctrl_writer (h : RegisterEffect s (edgeParts s) i u) :
    u.ctrlRxen = s.ctrlRxen ∧ u.ctrlTcie = s.ctrlTcie ∨ ∃ v, i = .wrCtrl v := by
  cases h with
  | control v => exact .inr ⟨v, rfl⟩
  | _ => exact .inl ⟨edgeParts_ctrlRxen s, edgeParts_ctrlTcie s⟩

/-- TC is set by a completion step only, and cleared by a STATUS write with bit 5 only (R49). -/
theorem RegisterEffect.stTc_writer (h : RegisterEffect s (edgeParts s) i u) :
    u.stTc = (txDone s || s.stTc) ∨ u.stTc = false ∧ ∃ v, i = .wrStatus v ∧ v.getLsbD 5 = true := by
  cases h with
  | clear v _ hv => exact .inr ⟨rfl, v, rfl, hv⟩
  | _ => exact .inl (edgeParts_stTc s)

/-- Only a TXDATA write writes TXACK (R49). -/
theorem RegisterEffect.stTxack_writer (h : RegisterEffect s (edgeParts s) i u) :
    u.stTxack = s.stTxack ∨ ∃ v, i = .wrTxdata v := by
  cases h with
  | accept v _ => exact .inr ⟨v, rfl⟩
  | drop v _ => exact .inr ⟨v, rfl⟩
  | _ => exact .inl (edgeParts_stTxack s)

end ClkEdge

/-! ### An `rx_clk` edge -/

theorem rxEdge_clkDomainKept (v : Bool) (b : Byte) (s : State) : ClkDomainKept s (rxEdge v b s) := by
  rcases rxEdge_cases v b s with ⟨_, _, e⟩ | ⟨_, e⟩ <;>
    simp [e, ClkDomainKept, CtrlKept, ConsumerKept, ProducerKept, TxStorageKept, EngineKept, RecordKept]

/-- Only a capture writes the RX producer or RX storage (R37, R38, R40). -/
theorem rxEdge_producer_writer (v : Bool) (b : Byte) (s : State) :
    (rxEdge v b s).rxRemain = s.rxRemain ∧ (rxEdge v b s).rxWgray = s.rxWgray ∧ (rxEdge v b s).rxmem = s.rxmem ∨
      v = true ∧ rxEnabled s = true := by
  rcases rxEdge_cases v b s with ⟨hv, hen, _⟩ | ⟨_, e⟩
  · exact .inr ⟨hv, hen⟩
  · exact .inl (by simp [e])

/-! ### Every operation -/

/-- Settles O27: a `clk` edge has one lemma for each writer; an `rx_clk` edge keeps the `clk` domain. -/
theorem eachFieldHasOneWriter : Obligations.EachFieldHasOneWriter := by
  intro i s t h
  cases hclk : isClkEdge i with
  | true =>
    obtain ⟨u, answer, heffect, rfl⟩ := exec_clkEdge_next i s t hclk h
    obtain ⟨hremain, hgray, hmem⟩ := heffect.receiveSide_kept
    have htx := heffect.txRing_writer
    have htc := heffect.stTc_writer
    refine ⟨?_, ?_, ?_, ?_, ?_, ?_, ?_, ?_, ?_, ?_⟩
    · simp [hremain, hgray]
    · simp [hmem]
    · exact fun hne => .inr (heffect.rxRptr_writer.resolve_left hne)
    · exact fun hne => .inr (htx.resolve_left fun hkept => hne hkept.1)
    · exact fun ⟨a, hne⟩ => .inr (htx.resolve_left fun hkept => hne (by rw [hkept.2]))
    · exact fun hne => .inr ⟨rfl, Bool.eq_true_of_not_eq_false fun hd => hne (heffect.txExt_writer hd)⟩
    · exact fun hne => .inr (heffect.ctrl_writer.resolve_left fun hkept => hne.elim (· hkept.1) (· hkept.2))
    · intro hset (hclear : u.stTc = false)
      rcases htc with htc | ⟨_, hwrite⟩
      · simp [hclear, hset] at htc
      · exact .inr hwrite
    · intro hclear (hset : u.stTc = true)
      rcases htc with htc | ⟨htc, _⟩
      · exact ⟨rfl, by simpa [hset, hclear] using htc.symm⟩
      · exact absurd (hset.symm.trans htc) (by decide)
    · exact fun hne => .inr (heffect.stTxack_writer.resolve_left hne)
  | false =>
    rcases eq_evRx_or_evReset i hclk with ⟨v, b, rfl⟩ | rfl
    · obtain rfl := Host.Outcome.next.inj h
      obtain ⟨hctrl, hconsumer, hproducer, hengine, _, _, hstTc, _, _⟩ := rxEdge_clkDomainKept v b s
      simp only [CtrlKept, ConsumerKept, ProducerKept, TxStorageKept, EngineKept] at hctrl hconsumer hproducer hengine
      rcases rxEdge_producer_writer v b s with hkept | ⟨rfl, hen⟩
      · simp [hkept, hctrl, hconsumer, hproducer, hengine, hstTc]
      · simp [hen, hctrl, hconsumer, hproducer, hengine, hstTc]
    · obtain rfl := Host.Outcome.next.inj h
      simp

end Sys2Proof.Machine

/-! The encoder's words decode to their operation (R121, R122, R123, R129): with `encode_of_decode`, the two are inverse
to each other. -/

namespace Sys2Proof

/-! ### The fields of a descriptor put together from them (R120, R121) -/

section AppendFields
variable (c z : BitVec 2) (off : BitVec 12)

theorem Desc.cls_append : Desc.cls (c ++ z ++ off) = c := by
  rw [Desc.cls, BitVec.extractLsb'_append_eq_of_le (by decide), BitVec.extractLsb'_append_eq_of_le (by decide)]
  exact BitVec.extractLsb'_eq_self

theorem Desc.size_append : Desc.size (c ++ z ++ off) = z := by
  rw [Desc.size, BitVec.extractLsb'_append_eq_of_le (by decide), BitVec.extractLsb'_append_eq_of_add_le (by decide)]
  exact BitVec.extractLsb'_eq_self

theorem Desc.offset_append : Desc.offset (c ++ z ++ off) = off := by
  rw [Desc.offset, BitVec.extractLsb'_append_eq_of_add_le (by decide)]
  exact BitVec.extractLsb'_eq_self

end AppendFields

/-! ### Register accesses -/

theorem decode_readDesc (r : Reg) (w : Word) : decode (readDesc r) w = .instr (readInstr r) := by cases r <;> rfl

theorem decode_writeDesc (r : Reg) (w : Word) : decode (writeDesc r) w = .instr (writeInstr r w) := by cases r <;> rfl

theorem encode_readInstr_snd (r : Reg) : (encode (readInstr r)).2 = none := by cases r <;> rfl

theorem encode_writeInstr_snd (r : Reg) (w : Word) : (encode (writeInstr r w)).2 = some w := by cases r <;> rfl

/-! ### Events -/

theorem decode_event (d : Desc) (w : Word) (hcls : Desc.cls d = 0b10#2) : decode d w = decodeEvent d := by
  rw [decode, hcls, if_neg (by decide), if_neg (by decide), if_pos rfl]

/-- The ARG of event RX: the byte, the valid bit above it, and three reserved bits (R127). -/
def rxArg (v : Bool) (b : Byte) : BitVec 12 := 0#3 ++ BitVec.ofBool v ++ b

theorem rxArg_fields (v : Bool) (b : Byte) :
    (rxArg v b).extractLsb' 9 3 = 0#3 ∧ (rxArg v b).getLsbD 8 = v ∧ (rxArg v b).extractLsb' 0 8 = b := by
  refine ⟨?_, ?_, ?_⟩
  · rw [rxArg, BitVec.extractLsb'_append_eq_of_le (by decide), BitVec.extractLsb'_append_eq_of_le (by decide)]
    rfl
  · rw [rxArg, BitVec.getLsbD_append, BitVec.getLsbD_append]
    cases v <;> rfl
  · rw [rxArg, BitVec.extractLsb'_append_eq_of_add_le (by decide)]
    exact BitVec.extractLsb'_eq_self

theorem encode_evRx (v : Bool) (b : Byte) : (encode (.evRx v b)).1 = 0b10#2 ++ 0b01#2 ++ rxArg v b := by
  obtain ⟨hreserved, hvalid, hbyte⟩ := rxArg_fields v b
  have happend := append_rxFields (rxArg v b) hreserved
  rwa [hvalid, hbyte] at happend

theorem decode_encode_evRx (v : Bool) (b : Byte) (w : Word) :
    decode (encode (.evRx v b)).1 w = .instr (.evRx v b) := by
  obtain ⟨hreserved, hvalid, hbyte⟩ := rxArg_fields v b
  have hevt : Desc.evt (0b10#2 ++ 0b01#2 ++ rxArg v b) = 0b01#2 := Desc.size_append _ _ _
  have harg : Desc.arg (0b10#2 ++ 0b01#2 ++ rxArg v b) = rxArg v b := Desc.offset_append _ _ _
  rw [encode_evRx, decode_event _ _ (Desc.cls_append _ _ _), decodeEvent, hevt, harg, hreserved, hvalid, hbyte,
    if_neg (by decide), if_pos rfl, if_pos rfl]

theorem encode_snd_of_decodeEvent (d : Desc) (i : Instr) (h : decodeEvent d = .instr i) : (encode i).2 = none := by
  unfold decodeEvent at h
  split at h
  · obtain ⟨_, rfl⟩ := guard_eq_instr _ _ _ _ h
    rfl
  split at h
  · obtain ⟨_, rfl⟩ := guard_eq_instr _ _ _ _ h
    rfl
  split at h
  · obtain ⟨_, rfl⟩ := guard_eq_instr _ _ _ _ h
    rfl
  · cases h

/-! ### Both directions -/

/-- Every operation decodes from its own words; where it has no second word, any does. -/
theorem decode_encode (i : Instr) (w : Word) : decode (encode i).1 ((encode i).2.getD w) = .instr i := by
  cases i with
  | evRx v b => exact decode_encode_evRx v b w
  | wrCtrl v | wrStatus v | wrRxdata v | wrRxcursor v | wrRxremain v | wrRxextract v | wrRxcount v | wrTxdata v
  | wrTxkick v | wrTxinsert v | wrTxextract v | wrTxptr v | wrTxlen v | wrTxremain v | wrTxcount v | wrTxfree v
  | wrParam v => exact decode_writeDesc _ v
  | _ => rfl

/-- The second word is a write's (R123). -/
theorem encode_snd_of_decode (d : Desc) (w : Word) (i : Instr) (h : decode d w = .instr i) :
    (encode i).2 = if Desc.cls d = 0b01#2 then some w else none := by
  unfold decode at h
  split at h
  · next hread =>
    obtain ⟨r, rfl, _⟩ := decodeBus_eq_instr d _ i h
    rw [encode_readInstr_snd, hread]
    rfl
  split at h
  · next hwrite =>
    obtain ⟨r, rfl, _⟩ := decodeBus_eq_instr d _ i h
    rw [encode_writeInstr_snd, if_pos hwrite]
  · next hwrite =>
    rw [if_neg hwrite]
    split at h
    · exact encode_snd_of_decodeEvent d i h
    · cases h

/-- Settles O1: `decode_encode` is one direction, `encode_of_decode` with `encode_snd_of_decode` the other. -/
theorem decodeInvertsEncode : Obligations.DecodeInvertsEncode :=
  ⟨fun i _ => decode_encode i 0#32, fun d w i h => ⟨encode_of_decode d w i h, encode_snd_of_decode d w i h⟩⟩

/-- Settles O4: each word is a register's read or write descriptor, or an event's. -/
theorem sampleWordsDecode : Obligations.SampleWordsDecode :=
  ⟨decode_readDesc .ctrl _, decode_readDesc .rxdata _, decode_readDesc .txfree _, decode_readDesc .param _,
    decode_writeDesc .ctrl _, decode_writeDesc .rxextract _, decode_writeDesc .txdata _,
    decode_encode .evClk _, decode_encode_evRx true 0x48#8 _, decode_encode_evRx false 0x00#8 _,
    decode_encode .evReset _⟩

end Sys2Proof

/-! The descriptors that are refused (R130), and where a step stops. -/

namespace Sys2Proof

/-! ### The fields of a descriptor as numbers -/

section FieldNumbers
variable (d : Desc)

theorem Desc.cls_toNat : (Desc.cls d).toNat = d.toNat / 0x4000 := by
  have hd := d.isLt
  rw [Desc.cls, BitVec.extractLsb'_toNat, Nat.shiftRight_eq_div_pow]
  omega

theorem Desc.evt_toNat : (Desc.evt d).toNat = d.toNat / 0x1000 % 4 := by
  rw [Desc.evt, BitVec.extractLsb'_toNat, Nat.shiftRight_eq_div_pow]

theorem Desc.arg_toNat : (Desc.arg d).toNat = d.toNat % 0x1000 := by
  rw [Desc.arg, BitVec.extractLsb'_toNat, Nat.shiftRight_zero]

/-- The reserved bits of event RX (R127). -/
theorem Desc.rxReserved_toNat : ((Desc.arg d).extractLsb' 9 3).toNat = d.toNat % 0x1000 / 0x200 := by
  rw [BitVec.extractLsb'_toNat, Desc.arg_toNat, Nat.shiftRight_eq_div_pow]
  omega

end FieldNumbers

/-! ### When a descriptor is refused -/

theorem decodeBus_ne_refused (d : Desc) (access : Reg → Instr) (why : DescError) :
    decodeBus d access ≠ .refused why := by
  unfold decodeBus
  split <;> simp

/-- The values of CLASS and EVT (R120, R122). -/
theorem field2_cases (x : BitVec 2) : x = 0b00#2 ∨ x = 0b01#2 ∨ x = 0b10#2 ∨ x = 0b11#2 := by
  revert x
  decide

/-- The events that are refused, each by its own name (R130). -/
theorem decodeEvent_eq_refused_iff (d : Desc) (why : DescError) :
    decodeEvent d = .refused why ↔
      (Desc.evt d = 0b00#2 ∧ Desc.arg d ≠ 0#12 ∧ why = .clkArgument) ∨
      (Desc.evt d = 0b01#2 ∧ (Desc.arg d).extractLsb' 9 3 ≠ 0#3 ∧ why = .rxArgument) ∨
      (Desc.evt d = 0b10#2 ∧ Desc.arg d ≠ 0#12 ∧ why = .resetArgument) ∨
      (Desc.evt d = 0b11#2 ∧ why = .reservedEvent) := by
  rcases field2_cases (Desc.evt d) with hevt | hevt | hevt | hevt
  · by_cases harg : Desc.arg d = 0#12 <;> simp [decodeEvent, hevt, harg, eq_comm]
  · by_cases harg : (Desc.arg d).extractLsb' 9 3 = 0#3 <;> simp [decodeEvent, hevt, harg, eq_comm]
  · by_cases harg : Desc.arg d = 0#12 <;> simp [decodeEvent, hevt, harg, eq_comm]
  · simp [decodeEvent, hevt, eq_comm]

/-- Only an event or CLASS 0b11 is refused, never a bus transaction (R131). -/
theorem decode_eq_refused_iff (d : Desc) (w : Word) (why : DescError) :
    decode d w = .refused why ↔
      (Desc.cls d = 0b10#2 ∧ decodeEvent d = .refused why) ∨ (Desc.cls d = 0b11#2 ∧ why = .reservedClass) := by
  rcases field2_cases (Desc.cls d) with hcls | hcls | hcls | hcls
  · simp [decode, hcls, decodeBus_ne_refused]
  · simp [decode, hcls, decodeBus_ne_refused]
  · simp [decode, hcls]
  · simp [decode, hcls, eq_comm]

/-! ### The ranges of R130 -/

/-- The range of descriptors that each reason refuses. -/
def refusedRange : DescError → Nat × Nat
  | .reservedClass => (0xC000, 0xFFFF)
  | .reservedEvent => (0xB000, 0xBFFF)
  | .clkArgument => (0x8001, 0x8FFF)
  | .rxArgument => (0x9200, 0x9FFF)
  | .resetArgument => (0xA001, 0xAFFF)

theorem decode_eq_refused_iff_range (d : Desc) (w : Word) (why : DescError) :
    decode d w = .refused why ↔ (refusedRange why).1 ≤ d.toNat ∧ d.toNat ≤ (refusedRange why).2 := by
  have hd := d.isLt
  have hcls := Desc.cls_toNat d
  have hevt := Desc.evt_toNat d
  have harg := Desc.arg_toNat d
  have hrx := Desc.rxReserved_toNat d
  rw [decode_eq_refused_iff, decodeEvent_eq_refused_iff]
  cases why <;> simp [refusedRange, ← BitVec.toNat_inj, hcls, hevt, harg, hrx] <;> omega

/-- The descriptors that are refused are the reserved ones. -/
theorem isReserved_iff_refused (d : Desc) (w : Word) :
    Desc.isReserved d = true ↔ ∃ why, decode d w = .refused why := by
  have hd := d.isLt
  simp only [decode_eq_refused_iff_range, Desc.isReserved, Bool.or_eq_true, Bool.and_eq_true, decide_eq_true_eq]
  constructor
  · rintro ((((h | h) | h) | h) | h)
    · exact ⟨.reservedClass, h, by simp only [refusedRange]; omega⟩
    · exact ⟨.reservedEvent, h⟩
    · exact ⟨.clkArgument, h⟩
    · exact ⟨.rxArgument, h⟩
    · exact ⟨.resetArgument, h⟩
  · rintro ⟨why, h⟩
    cases why <;> simp only [refusedRange] at h <;> omega

end Sys2Proof

namespace Sys2Proof.Machine

/-! ### Where a step stops -/

theorem step_of_instr (s : State) (r : Request) (rest : List Request) (i : Instr) (hscript : s.script = r :: rest)
    (h : decode r.desc r.wdata = .instr i) : step s = exec i (takeRequest r rest s) := by
  simp [step, hscript, h]

theorem step_of_refused (s : State) (r : Request) (rest : List Request) (why : DescError)
    (hscript : s.script = r :: rest) (h : decode r.desc r.wdata = .refused why) :
    step s = .refused (.reservedDescriptor why) := by
  simp [step, hscript, h]

/-- Settles O2: the ranges are `decode_eq_refused_iff_range`'s. -/
theorem refusedDescriptorsAreTheReservedOnes : Obligations.RefusedDescriptorsAreTheReservedOnes :=
  ⟨fun d w =>
    ⟨(decode_eq_refused_iff_range d w .reservedClass).trans (and_iff_left (Nat.le_of_lt_succ d.isLt)),
      decode_eq_refused_iff_range d w .reservedEvent, decode_eq_refused_iff_range d w .clkArgument,
      decode_eq_refused_iff_range d w .rxArgument, decode_eq_refused_iff_range d w .resetArgument⟩,
    step_of_refused⟩

/-- Every operation answers a next state (entry 16). -/
theorem exec_next (i : Instr) (s : State) : ∃ t, exec i s = .next t := by
  rcases exec_cases i s with ⟨_, v, h⟩ | ⟨_, h⟩ | ⟨_, _, h⟩ | ⟨_, _, h⟩ | ⟨_, _, h⟩ | ⟨_, _, h⟩ | ⟨_, h⟩ |
    ⟨_, _, _, h⟩ | ⟨_, h⟩ <;> exact ⟨_, h⟩

/-- The three ends a step can have: the script's, a next state, and the refusal of a reserved descriptor. -/
theorem step_trichotomy (s : State) :
    (s.script = [] ∧ step s = .refused .endOfScript) ∨
    (∃ r rest t, s.script = r :: rest ∧ Desc.isReserved r.desc = false ∧ step s = .next t) ∨
    ∃ r rest why, s.script = r :: rest ∧ Desc.isReserved r.desc = true ∧
      step s = .refused (.reservedDescriptor why) := by
  rcases step_cases s with ⟨hs, h⟩ | ⟨r, rest, hs, hcases⟩
  · exact .inl ⟨hs, h⟩
  have hreserved := isReserved_iff_refused r.desc r.wdata
  rcases hcases with ⟨i, hd, h⟩ | ⟨c, hd, h⟩ | ⟨why, hd, h⟩
  · obtain ⟨t, ht⟩ := exec_next i (takeRequest r rest s)
    exact .inr (.inl ⟨r, rest, t, hs, by simpa [hd] using hreserved, h.trans ht⟩)
  · exact .inr (.inl ⟨r, rest, _, hs, by simpa [hd] using hreserved, h⟩)
  · exact .inr (.inr ⟨r, rest, why, hs, hreserved.2 ⟨why, hd⟩, h⟩)

/-- Settles O7: each of the three ends rules the other two out, and none is a fault. -/
theorem stepStopsOnlyAtReservedOrEnd : Obligations.StepStopsOnlyAtReservedOrEnd := by
  intro s
  rcases step_trichotomy s with ⟨hs, h⟩ | ⟨r, rest, t, hs, hr, h⟩ | ⟨r, rest, why, hs, hr, h⟩
  · simp [hs, h]
  · simp [hs, h, hr]
  · simp [hs, h, hr]

end Sys2Proof.Machine

/-! The assembler's lines (R134) and the expansions of the pseudo-instructions (R135): their words, and what the decoder
reads in them. -/

namespace Sys2Proof

/-! ### Bus transactions that are in error (R262) -/

/-- A descriptor put together from its fields, as a number (R121). -/
theorem Desc.toNat_append (c z : BitVec 2) (off : BitVec 12) :
    (c ++ z ++ off : Desc).toNat = c.toNat * 0x4000 + z.toNat * 0x1000 + off.toNat := by
  rw [BitVec.toNat_append, BitVec.toNat_append, ← Nat.shiftLeft_add_eq_or_of_lt z.isLt,
    ← Nat.shiftLeft_add_eq_or_of_lt off.isLt, Nat.shiftLeft_eq, Nat.shiftLeft_eq]
  omega

theorem decode_of_checkTransaction_error (d : Desc) (w : Word) (c : BusErrorCause)
    (hcls : Desc.cls d = 0b00#2 ∨ Desc.cls d = 0b01#2)
    (h : checkTransaction (Desc.size d) (Desc.offset d) = .error c) : decode d w = .busError c := by
  rcases hcls with hcls | hcls <;> simp [decode, decodeBus, hcls, h]

theorem Reg.offset_le (r : Reg) : r.offset.toNat ≤ 0x040 := by cases r <;> decide

/-- No register stands at or above 0x044 (R125). -/
theorem Reg.ofOffset?_eq_none (off : BitVec 12) (h : 0x044 ≤ off.toNat) : Reg.ofOffset? off = none := by
  refine List.find?_eq_none.2 fun r _ he => ?_
  have hle := Reg.offset_le r
  rw [eq_of_beq he] at hle
  omega

theorem aligned_iff (off : BitVec 12) : off.extractLsb' 0 2 = 0b00#2 ↔ off.toNat % 4 = 0 := by
  simp [← BitVec.toNat_inj]

end Sys2Proof

namespace Sys2Proof.Machine

/-! ### Lines that name an operation -/

theorem lineDesc_rd (r : Reg) : lineDesc (.rd r) = readDesc r := by cases r <;> rfl

theorem lineDesc_wr (r : Reg) (v : Word) : lineDesc (.wr r v) = writeDesc r := by cases r <;> rfl

theorem decode_line_rd (r : Reg) (w : Word) : decode (lineDesc (.rd r)) w = .instr (readInstr r) := by
  rw [lineDesc_rd, decode_readDesc]

theorem decode_line_wr (r : Reg) (v w : Word) : decode (lineDesc (.wr r v)) w = .instr (writeInstr r w) := by
  rw [lineDesc_wr, decode_writeDesc]

theorem decode_line_rx (b : Byte) (w : Word) : decode (lineDesc (.rx b)) w = .instr (.evRx true b) :=
  decode_encode_evRx true b w

theorem decode_line_clk (w : Word) : decode (lineDesc .clk) w = .instr .evClk := decode_encode .evClk w

/-! ### Raw lines -/

theorem toNat_lineDesc_rdRaw (size : SizeLetter) (off : BitVec 12) :
    (lineDesc (.rdRaw size off)).toNat = (sizeField size).toNat * 0x1000 + off.toNat := by
  rw [lineDesc, Desc.toNat_append]
  exact congrArg (· + _) (Nat.zero_add _)

theorem toNat_lineDesc_wrRaw (size : SizeLetter) (off : BitVec 12) (v : Word) :
    (lineDesc (.wrRaw size off v)).toNat = 0x4000 + (sizeField size).toNat * 0x1000 + off.toNat := by
  rw [lineDesc, Desc.toNat_append]
  rfl

/-- The cause of each transaction that is no aligned word access of a register (R262). -/
theorem checkTransaction_error (size : SizeLetter) (off : BitVec 12) :
    (size = .x → checkTransaction (sizeField size) off = .error .sizeReserved) ∧
    (size = .b ∨ size = .h → checkTransaction (sizeField size) off = .error .sizeNarrow) ∧
    (size = .w → off.toNat % 4 ≠ 0 → checkTransaction (sizeField size) off = .error .misaligned) ∧
    (size = .w → off.toNat % 4 = 0 → 0x044 ≤ off.toNat →
      checkTransaction (sizeField size) off = .error .unmapped) := by
  refine ⟨?_, ?_, ?_, ?_⟩
  · rintro rfl
    rfl
  · rintro (rfl | rfl) <;> rfl
  · rintro rfl hmis
    simp [checkTransaction, sizeField, aligned_iff, hmis]
  · rintro rfl halign hoff
    simp [checkTransaction, sizeField, aligned_iff, halign, Reg.ofOffset?_eq_none off hoff]

/-- A raw line of either class is in error where its size and offset are. -/
theorem decode_raw_of_error (l : AsmLine) (size : SizeLetter) (off : BitVec 12) (v w : Word) (c : BusErrorCause)
    (hl : l = .rdRaw size off ∨ l = .wrRaw size off v) (h : checkTransaction (sizeField size) off = .error c) :
    decode (lineDesc l) w = .busError c := by
  rcases hl with rfl | rfl
  · refine decode_of_checkTransaction_error _ w c (.inl (Desc.cls_append _ _ _)) ?_
    rwa [lineDesc, Desc.size_append, Desc.offset_append]
  · refine decode_of_checkTransaction_error _ w c (.inr (Desc.cls_append _ _ _)) ?_
    rwa [lineDesc, Desc.size_append, Desc.offset_append]

/-! ### The step of a line -/

theorem step_of_line (s : State) (ready : Bool) (l : AsmLine) (rest : List Request) (i : Instr)
    (hscript : s.script = lineRequest ready l :: rest) (h : decode (lineDesc l) (lineWdata l) = .instr i) :
    step s = exec i { s with script := rest, txReadyI := ready } :=
  step_of_instr s (lineRequest ready l) rest i hscript h

/-- Settles O48: a line with an operation has that operation's descriptor; a raw line's SIZE and OFFSET are its own. -/
theorem assemblerLinesNameTheirOperations : Obligations.AssemblerLinesNameTheirOperations := by
  refine ⟨fun r v b => ?_, fun off v => ?_, fun size off v => ⟨rfl, fun l hl => ?_⟩, fun s ready rest r v => ?_,
    fun n ready l ls => rfl⟩
  · exact ⟨decode_line_rd r _, decode_line_wr r v _, decode_line_clk _, decode_line_rx b _,
      decode_encode_evRx false 0#8 _, decode_encode .evReset _, (lineDesc_rd r).symm, (lineDesc_wr r v).symm⟩
  · simp [toNat_lineDesc_rdRaw, toNat_lineDesc_wrRaw, sizeField]
  · have hraw := fun c => decode_raw_of_error l size off v (lineWdata l) c hl
    obtain ⟨hreserved, hnarrow, hmisaligned, hunmapped⟩ := checkTransaction_error size off
    exact ⟨fun hx => hraw _ (hreserved hx), fun hbh => hraw _ (hnarrow hbh),
      fun hw hmis => hraw _ (hmisaligned hw hmis), fun hw halign hoff => hraw _ (hunmapped hw halign hoff)⟩
  · exact ⟨fun h => step_of_line s ready _ rest _ h (decode_line_rd r _),
      fun h => step_of_line s ready _ rest _ h (decode_line_wr r v v),
      fun h => step_of_line s ready _ rest _ h (decode_line_clk _)⟩

/-! ### Pseudo-instructions -/

theorem take_writeResult (p : List Byte) (f : Nat) : p.take (writeResult p.length f) = p.take f := by
  rw [writeResult, Nat.min_comm, ← List.take_eq_take_min]

theorem length_take_writeResult (p : List Byte) (f : Nat) :
    (p.take (writeResult p.length f)).length = writeResult p.length f :=
  List.length_take_of_le (Nat.min_le_left _ _)

/-- One line reads the free space, one writes each byte that fits, and one kicks if there is such a byte (R135). -/
theorem length_expandWrite (p : List Byte) (f : Nat) :
    (expandWrite p f).length = writeResult p.length f + 1 + if 0 < writeResult p.length f then 1 else 0 := by
  rw [expandWrite, List.length_append, List.length_cons, List.length_map, length_take_writeResult,
    apply_ite List.length]
  rfl

theorem words_expandWrite (p : List Byte) (f : Nat) :
    (expandWrite p f).map lineWords =
      (0x203C#16, 0#32) :: (p.take f).map (fun b => (0x601C#16, b.zeroExtend 32)) ++
        if 0 < writeResult p.length f then [(0x6020#16, 0#32)] else [] := by
  rw [expandWrite, take_writeResult, List.map_append, List.map_cons, List.map_map, apply_ite (List.map lineWords)]
  rfl

/-- Settles O51: the expansions of fixed length are read off, that of `write` is `words_expandWrite`. -/
theorem pseudoInstructionsExpandToTheirWords : Obligations.PseudoInstructionsExpandToTheirWords := by
  intro c b p f status
  refine ⟨rfl, rfl, rfl, rfl, rfl, List.map_replicate, words_expandWrite p f, ?_, rfl⟩
  rw [← take_writeResult, length_take_writeResult]

end Sys2Proof.Machine

/-! A run over assembler lines, one line at a time, and what it makes of the pseudo-instructions of fixed length
(R135). -/

namespace Sys2Proof.Machine

/-! ### Runs -/

@[simp] theorem runSteps_one (s : State) : runSteps 1 s = step s := by
  rw [runSteps]
  split <;> simp_all

/-- A run goes on from where its first steps end. -/
theorem runSteps_add (m n : Nat) (s t : State) (h : runSteps m s = .next t) : runSteps (m + n) s = runSteps n t := by
  induction m generalizing s with
  | zero =>
    obtain rfl := Host.Outcome.next.inj h
    rw [Nat.zero_add]
  | succ m ih =>
    obtain ⟨u, hstep, hrun⟩ := (runSteps_succ_next m s t).1 h
    rw [Nat.succ_add, runSteps_succ _ s u hstep, ih u hrun]

/-! ### The script -/

/-- A `clk` edge leaves the script alone (entry 3). -/
theorem RegisterEffect.script_eq {s u : State} {i : Instr} (h : RegisterEffect s (edgeParts s) i u) :
    u.script = s.script := by
  cases h <;> exact edgeParts_script s

theorem State.willPerform_nil {s : State} {rest : List Request} : s.willPerform [] rest ↔ s.script = rest := by
  simp [State.willPerform]

/-- The first of the lines is the operation of the next step, and the rest of the script spells the other lines. -/
theorem State.willPerform_cons {s : State} {l : AsmLine} {ls : List AsmLine} {rest : List Request} {i : Instr}
    (h : s.willPerform (l :: ls) rest) (hi : decode (lineDesc l) (lineWdata l) = .instr i) :
    ∃ r q, step s = exec i (takeRequest r q s) ∧ ∀ t : State, t.script = q → t.willPerform ls rest := by
  obtain ⟨reqs, hscript, hwords⟩ := h
  obtain ⟨r, reqs, rfl, hr, htail⟩ := List.map_eq_cons_iff.1 hwords
  obtain ⟨hdesc, hwdata⟩ := Prod.mk.inj hr
  refine ⟨r, reqs ++ rest, step_of_instr s r _ i hscript ?_, fun t ht => ⟨reqs, ht, htail⟩⟩
  rw [hdesc, hwdata, hi]

/-- A line that is a `clk` edge completes, and the next lines follow. -/
theorem State.willPerform_clkEdge {s : State} {l : AsmLine} {ls : List AsmLine} {rest : List Request} {i : Instr}
    (h : s.willPerform (l :: ls) rest) (hi : decode (lineDesc l) (lineWdata l) = .instr i)
    (hclk : isClkEdge i = true) :
    ∃ r q t, step s = .next t ∧ exec i (takeRequest r q s) = .next t ∧ t.willPerform ls rest := by
  obtain ⟨r, q, hstep, hnext⟩ := State.willPerform_cons h hi
  obtain ⟨u, answer, heffect, hexec⟩ := exec_clkEdge i (takeRequest r q s) hclk
  exact ⟨r, q, _, hstep.trans hexec, hexec, hnext _ heffect.script_eq⟩

/-! ### What the pseudo-instructions' operations do -/

theorem rxdataWord_eq_sentinel_iff (s : State) : rxdataWord s = noDataSentinel ↔ rxEmpty s = true := by
  cases he : rxEmpty s with
  | true => simp [rxdataWord, he]
  | false =>
    have hlt := (rxPopByte s).isLt
    have hne : zextByte (rxPopByte s) ≠ noDataSentinel := by
      rw [Ne, ← BitVec.toNat_inj, zextByte, BitVec.toNat_setWidth, noDataSentinel, BitVec.toNat_ofNat]
      omega
    simp [rxdataWord, he, hne]

theorem rxdataWord_of_noOverrun (s : State) (he : rxEmpty s = false) (ho : s.noOverrun) :
    rxdataWord s = (rxByte s s.rxRptr).zeroExtend 32 := by
  simp [rxdataWord, he, rxPopByte, rxOverrun_eq_false s ho, zextByte]

theorem putcResult_statusWord (s : State) : putcResult (statusWord s) = s.stTxack := by
  rw [putcResult, statusWord, BitVec.getLsbD_append]
  simp only [BitVec.getLsbD_append]
  simp

theorem txdataByte_zextByte (b : Byte) : txdataByte (zextByte b) = b := by
  have hb := b.isLt
  apply BitVec.eq_of_toNat_eq
  rw [txdataByte, BitVec.extractLsb'_toNat, zextByte, BitVec.toNat_setWidth, Nat.shiftRight_zero]
  omega

/-- A TXDATA write (R210). -/
theorem exec_wrTxdata_next {v : Word} {s t : State} (h : exec (.wrTxdata v) s = .next t) :
    t.stTxack = (!txFull s) ∧
      t.txmem = if txFull s then s.txmem else Memory.write s.txmem s.txIns (txdataByte v) := by
  obtain rfl := Host.Outcome.next.inj h
  rcases writeTxdata_cases v s (edgeParts s) with ⟨hfull, e⟩ | ⟨hroom, e⟩
  · simp [e, hfull]
  · simp [e, hroom]

theorem exec_rdStatus_next {s t : State} (h : exec .rdStatus s = .next t) :
    t.resp = some ⟨statusWord s, false⟩ ∧ t.txmem = s.txmem := by
  obtain rfl := Host.Outcome.next.inj h
  exact ⟨rfl, edgeParts_txmem s⟩

/-- A completion step that leaves the engine idle leaves the ring empty (R222). -/
theorem edgeParts_armed_or_empty (s : State) (ha : s.txActive = true) :
    (edgeParts s).txActive = true ∨ (edgeParts s).txIns = (edgeParts s).txExt := by
  rcases engineEdge_cases s (syncShift s s) with ⟨_, he, h⟩ | ⟨_, _, h⟩ | ⟨_, _, _, h⟩ | ⟨_, _, h⟩
  · exact .inr (by simp [edgeParts, h, he])
  all_goals exact .inl (by simp [edgeParts, h, ha])

/-- After a kick no byte waits without a block (R212, R227). -/
theorem kick_armed_or_empty (s : State) :
    (kick s (edgeParts s)).txActive = true ∨ (kick s (edgeParts s)).txIns = (kick s (edgeParts s)).txExt := by
  rcases kick_cases s (edgeParts s) with ⟨_, _, e⟩ | ⟨ha | he, e⟩ <;> rw [e]
  · exact .inl rfl
  · exact edgeParts_armed_or_empty s ha
  · cases ha : s.txActive with
    | true => exact edgeParts_armed_or_empty s ha
    | false => exact .inr (by simp [edgeParts_of_idle s ha, (txEmpty_iff s).1 he])

theorem exec_wrTxkick_next {v : Word} {s t : State} (h : exec (.wrTxkick v) s = .next t) :
    (t.txActive = true ∨ t.txIns = t.txExt) ∧ t.txmem = s.txmem ∧ t.stTxack = s.stTxack := by
  obtain rfl := Host.Outcome.next.inj h
  refine ⟨kick_armed_or_empty s, ?_⟩
  rcases kick_cases s (edgeParts s) with ⟨_, _, e⟩ | ⟨_, e⟩ <;> simp [e]

/-! ### Waiting for the synchronizer -/

/-- A chain after `n` shifts of one sample. -/
theorem iterate_shiftIn {α : Type} (x : α) (n : Nat) (l : List α) :
    (shiftIn x)^[n] l = (List.replicate n x ++ l).take l.length := by
  induction n generalizing l with
  | zero => simp
  | succ n ih =>
    rw [Function.iterate_succ_apply, ih, shiftIn_length, shiftIn, List.replicate_succ', List.append_assoc]
    simp [List.take_append, List.take_take]

/-- As many shifts as there are stages bring the sample through the chain. -/
theorem lastStage_iterate_shiftIn {α : Type} (x d : α) (l : List α) (hl : 0 < l.length) :
    lastStage l.length ((shiftIn x)^[l.length] l) d = x := by
  rw [iterate_shiftIn, List.take_left' (by simp), lastStage]
  simp [List.getD, hl]

/-- Idle `clk` edges do nothing to the receive side but shift the synchronizer (R157, R180). -/
theorem runSteps_idleEdges (n : Nat) (s : State) (rest : List Request)
    (h : s.willPerform (List.replicate n .clk) rest) :
    ∃ t, runSteps n s = .next t ∧ t.script = rest ∧ t.cfg = s.cfg ∧
      t.rxSync = (shiftIn s.rxWgray)^[n] s.rxSync := by
  induction n generalizing s with
  | zero => exact ⟨s, rfl, State.willPerform_nil.1 h, rfl, rfl⟩
  | succ n ih =>
    obtain ⟨r, q, u, hstep, hexec, hnext⟩ := State.willPerform_clkEdge h (decode_line_clk _) rfl
    obtain ⟨t, hrun, hscript, hcfg, hsync⟩ := ih u hnext
    obtain rfl := Host.Outcome.next.inj hexec
    refine ⟨t, (runSteps_succ _ _ _ hstep).trans hrun, hscript, hcfg.trans ?_, hsync.trans ?_⟩
    · simp
    · simp

/-! ### The pseudo-instructions, each on its own -/

section Pseudo
variable {s : State} {rest : List Request}

/-- A write of CTRL leaves the bits written (R152). -/
theorem perform_wrCtrl {v : Word} (h : s.willPerform [.wr .ctrl v] rest) :
    ∃ t, runSteps 1 s = .next t ∧ t.script = rest ∧ t.ctrlRxen = ctrlRxenBit v ∧ t.ctrlTcie = ctrlTcieBit v := by
  obtain ⟨r, q, t, hstep, hexec, hnext⟩ := State.willPerform_clkEdge h (decode_line_wr .ctrl v v) rfl
  obtain rfl := Host.Outcome.next.inj hexec
  exact ⟨_, (runSteps_one s).trans hstep, State.willPerform_nil.1 hnext, rfl, rfl⟩

theorem perform_getc (h : s.willPerform (expandPseudo s.cfg .getc) rest) :
    ∃ t v, runSteps 1 s = .next t ∧ t.script = rest ∧ t.resp = some ⟨v, false⟩ ∧
      (v = 0xFFFFFFFF#32 ↔ rxEmpty s = true) ∧
      (rxEmpty s = false → s.noOverrun → v = (rxByte s s.rxRptr).zeroExtend 32) := by
  obtain ⟨r, q, t, hstep, hexec, hnext⟩ := State.willPerform_clkEdge h (decode_line_rd .rxdata _) rfl
  obtain rfl := Host.Outcome.next.inj hexec
  exact ⟨_, rxdataWord s, (runSteps_one s).trans hstep, State.willPerform_nil.1 hnext, rfl,
    rxdataWord_eq_sentinel_iff s, rxdataWord_of_noOverrun s⟩

theorem perform_putc {b : Byte} (h : s.willPerform (expandPseudo s.cfg (.putc b)) rest) :
    ∃ u t v, runSteps 2 s = .next u ∧ u.resp = some ⟨v, false⟩ ∧ putcResult v = !(txFull s) ∧
      runSteps 3 s = .next t ∧ t.script = rest ∧ (t.txActive = true ∨ t.txIns = t.txExt) ∧
      t.txmem = if txFull s then s.txmem else Memory.write s.txmem s.txIns b := by
  obtain ⟨r₁, q₁, s₁, hstep₁, hexec₁, hnext₁⟩ := State.willPerform_clkEdge h (decode_line_wr .txdata _ _) rfl
  obtain ⟨r₂, q₂, s₂, hstep₂, hexec₂, hnext₂⟩ := State.willPerform_clkEdge hnext₁ (decode_line_rd .status _) rfl
  obtain ⟨r₃, q₃, s₃, hstep₃, hexec₃, hnext₃⟩ := State.willPerform_clkEdge hnext₂ (decode_line_wr .txkick _ _) rfl
  have hrun₂ : runSteps 2 s = .next s₂ := by rw [runSteps_succ _ _ _ hstep₁, runSteps_one, hstep₂]
  have hrun₃ : runSteps 3 s = .next s₃ := by rw [runSteps_add 2 1 _ _ hrun₂, runSteps_one, hstep₃]
  obtain ⟨hack, hmem₁⟩ := exec_wrTxdata_next hexec₁
  obtain ⟨hresp, hmem₂⟩ := exec_rdStatus_next hexec₂
  obtain ⟨harmed, hmem₃, _⟩ := exec_wrTxkick_next hexec₃
  refine ⟨s₂, s₃, _, hrun₂, hresp, (putcResult_statusWord _).trans hack, hrun₃, State.willPerform_nil.1 hnext₃,
    harmed, ?_⟩
  rw [lineWdata, txdataByte_zextByte] at hmem₁
  exact hmem₃.trans (hmem₂.trans hmem₁)

theorem perform_ackc (h : s.willPerform (expandPseudo s.cfg .ackc) rest) (hd : txDone s = false) :
    ∃ t, runSteps 1 s = .next t ∧ t.script = rest ∧ t.stTc = false := by
  obtain ⟨r, q, t, hstep, hexec, hnext⟩ := State.willPerform_clkEdge h (decode_line_wr .status _ _) rfl
  obtain rfl := Host.Outcome.next.inj hexec
  refine ⟨_, (runSteps_one s).trans hstep, State.willPerform_nil.1 hnext, ?_⟩
  rw [respond_stTc, writeStatus_eq_clearTc _ (takeRequest r q s) _ hd rfl, clearTc_stTc]

theorem perform_waitSync (h : s.willPerform (expandPseudo s.cfg .waitSync) rest) (hinv : s.ReceiveInv) :
    ∃ t, runSteps s.cfg.syncStages s = .next t ∧ t.script = rest ∧ rxWsync t = rxWptr s := by
  obtain ⟨t, hrun, hscript, hcfg, hsync⟩ := runSteps_idleEdges _ s rest h
  refine ⟨t, hrun, hscript, ?_⟩
  have hpos := Config.syncStages_pos s.cfg
  rw [hinv.rxWptr_eq, ← hcfg]
  apply rxWsync_eq_of_lastStage
  rw [hcfg, hsync, ← hinv.gray, ← hinv.syncLength]
  exact lastStage_iterate_shiftIn _ _ _ (hinv.syncLength ▸ hpos)

end Pseudo

/-- Settles O52: each pseudo-instruction is one of the lemmas `perform_…`. -/
theorem pseudoInstructionsDoTheirWork : Obligations.PseudoInstructionsDoTheirWork := by
  refine fun s rest => ⟨perform_wrCtrl, perform_wrCtrl, perform_getc, fun b h => ?_, perform_ackc,
    fun h hinv => perform_waitSync h hinv.receiveInv⟩
  obtain ⟨u, t, v, hrun₂, hresp, hresult, hrun₃, hscript, harmed, hmem⟩ := perform_putc h
  refine ⟨u, t, v, hrun₂, hresp, hresult, hrun₃, hscript, harmed, fun hroom => ?_, fun hfull a => ?_⟩
  · simp [hmem, hroom, Memory.read?_write_same]
  · simp [hmem, hfull]

end Sys2Proof.Machine

/-! The `write` call (R135, R227): its TXDATA lines are no more than the free space its first line reads, so every one of
them is accepted. -/

namespace Sys2Proof.Machine

/-! ### The free space -/

theorem State.TransmitInv.txCount_acceptByte {s : State} (h : s.TransmitInv) (b : Byte)
    (hroom : txCount s + 1 < s.cfg.txCap) : txCount (acceptByte b s s) = txCount s + 1 :=
  ringCount_insert _ _ _ h.ins h.ext hroom

/-- A byte fits into a ring with free space (R236). -/
theorem State.TransmitInv.txFull_eq_false {s : State} (h : s.TransmitInv) (hfree : 0 < txFree s) :
    txFull s = false := by
  by_contra hfull
  have hcount : txCount s = s.cfg.txCap - 1 :=
    (ringCount_eq_mask_iff _ _ _ h.ins h.ext).2 ((txFull_iff_boundary s).1 (by simpa using hfull))
  rw [txFree, Config.txMask, hcount, Nat.sub_self] at hfree
  omega

theorem State.TransmitInv.txFree_of_txEmpty {s : State} (h : s.TransmitInv) (he : txEmpty s = true) :
    txFree s = s.cfg.txMask := by
  have hcount : txCount s = 0 := (ringCount_eq_zero_iff _ _ _ h.ins h.ext).2 ((txEmpty_iff s).1 he)
  rw [txFree, hcount, Nat.sub_zero]

/-- An accepted byte takes one place of the ring, and nothing else takes any (R210). -/
theorem RegisterEffect.txCount_le {s u : State} {i : Instr} (heffect : RegisterEffect s (edgeParts s) i u)
    (h : s.TransmitInv) : txCount u ≤ txCount s + (txAccepted i s).length := by
  have hedge := h.txCount_edgeParts_le
  cases heffect with
  | accept v hfull =>
    have hcount := h.edgeParts.txCount_acceptByte (txdataByte v) (h.room_edgeParts hfull)
    calc txCount (acceptByte (txdataByte v) s (edgeParts s))
        = txCount (acceptByte (txdataByte v) (edgeParts s) (edgeParts s)) := by simp [txCount]
      _ ≤ txCount s + (txAccepted (.wrTxdata v) s).length := by simp [txAccepted, hfull]; omega
  | plain | emptyPop | pop | overrunPop | control | clear | keepTc | drop | arm | noArm =>
    exact hedge.trans (Nat.le_add_right _ _)

/-! ### How a run grows the queue -/

/-- From `s` to `t` the bytes have joined the transmit queue, the invariant holds again, and no more free space is gone
than they take. -/
structure QueueGrowth (bytes : List Byte) (s t : State) : Prop where
  inv : t.Inv
  traffic : txTraffic t = txTraffic s ++ bytes
  free : txFree s ≤ txFree t + bytes.length

theorem QueueGrowth.trans {xs ys : List Byte} {s t u : State} (h : QueueGrowth xs s t) (h' : QueueGrowth ys t u) :
    QueueGrowth (xs ++ ys) s u where
  inv := h'.inv
  traffic := by rw [h'.traffic, h.traffic, List.append_assoc]
  free := by
    have hfree := h.free
    have hfree' := h'.free
    rw [List.length_append]
    omega

theorem queueGrowth_exec {i : Instr} {s t : State} (hclk : isClkEdge i = true) (hinv : s.Inv)
    (h : exec i s = .next t) : QueueGrowth (txAccepted i s) s t where
  inv := exec_inv i s t hinv h
  traffic := by
    refine txTraffic_exec i s t hinv.transmitInv ?_ h
    rintro rfl
    cases hclk
  free := by
    have hcfg := exec_cfg i s t h
    obtain ⟨u, answer, heffect, rfl⟩ := exec_clkEdge_next i s t hclk h
    have hcount := heffect.txCount_le hinv.transmitInv
    have hfree : txFree { u with resp := answer } = s.cfg.txMask - txCount u := by rw [← hcfg]; rfl
    rw [hfree, txFree]
    omega

/-- A line that is a `clk` edge grows the queue by the byte it accepts. -/
theorem State.willPerform_growth {s : State} {l : AsmLine} {ls : List AsmLine} {rest : List Request} {i : Instr}
    (h : s.willPerform (l :: ls) rest) (hi : decode (lineDesc l) (lineWdata l) = .instr i)
    (hclk : isClkEdge i = true) (hinv : s.Inv) :
    ∃ r q t, step s = .next t ∧ exec i (takeRequest r q s) = .next t ∧ t.willPerform ls rest ∧
      QueueGrowth (txAccepted i (takeRequest r q s)) s t := by
  obtain ⟨r, q, t, hstep, hexec, hnext⟩ := State.willPerform_clkEdge h hi hclk
  have hgrow := queueGrowth_exec hclk (inv_takeRequest r q s hinv) hexec
  exact ⟨r, q, t, hstep, hexec, hnext, hgrow.inv, hgrow.traffic, hgrow.free⟩

/-! ### The lines of the call -/

/-- As many TXDATA writes as there is free space are all accepted, in order (R227). -/
theorem runSteps_txdata (bs : List Byte) (s : State) (ls : List AsmLine) (rest : List Request) (hinv : s.Inv)
    (hfit : bs.length ≤ txFree s)
    (h : s.willPerform (bs.map (fun b => .wr .txdata (zextByte b)) ++ ls) rest) :
    ∃ t, runSteps bs.length s = .next t ∧ t.willPerform ls rest ∧ QueueGrowth bs s t ∧
      (s.stTxack = true ∨ bs ≠ [] → t.stTxack = true) := by
  induction bs generalizing s with
  | nil => exact ⟨s, rfl, h, ⟨hinv, (List.append_nil _).symm, le_rfl⟩, fun hack => by simpa using hack⟩
  | cons b bs ih =>
    rw [List.length_cons] at hfit
    obtain ⟨r, q, u, hstep, hexec, hnext, hgrow⟩ :=
      State.willPerform_growth h (decode_line_wr .txdata _ _) rfl hinv
    have hroom : txFull (takeRequest r q s) = false := hinv.transmitInv.txFull_eq_false (by omega)
    have haccepted : txAccepted (.wrTxdata (zextByte b)) (takeRequest r q s) = [b] := by
      simp [txAccepted, hroom, txdataByte_zextByte]
    replace hgrow : QueueGrowth [b] s u := haccepted ▸ hgrow
    have hack : u.stTxack = true := by rw [(exec_wrTxdata_next hexec).1, hroom, Bool.not_false]
    have hfree := hgrow.free
    obtain ⟨t, hrun, hlast, hgrow', hack'⟩ := ih u hgrow.inv (by rw [List.length_singleton] at hfree; omega) hnext
    exact ⟨t, (runSteps_succ _ _ _ hstep).trans hrun, hlast, hgrow.trans hgrow', fun _ => hack' (.inl hack)⟩

/-- The first line answers the free space. -/
theorem perform_rdTxfree {s : State} {ls : List AsmLine} {rest : List Request} (hinv : s.Inv)
    (h : s.willPerform (.rd .txfree :: ls) rest) :
    ∃ t, step s = .next t ∧ t.resp = some ⟨zext32 (txFree s), false⟩ ∧ t.willPerform ls rest ∧
      QueueGrowth [] s t := by
  obtain ⟨r, q, t, hstep, hexec, hnext, hgrow⟩ := State.willPerform_growth h (decode_line_rd .txfree _) rfl hinv
  obtain rfl := Host.Outcome.next.inj hexec
  exact ⟨_, hstep, rfl, hnext, hgrow⟩

/-- The kick that ends the call. -/
theorem perform_txkick {s : State} {v : Word} {rest : List Request} (hinv : s.Inv)
    (h : s.willPerform [.wr .txkick v] rest) :
    ∃ t, step s = .next t ∧ t.script = rest ∧ QueueGrowth [] s t ∧ t.stTxack = s.stTxack ∧
      (t.txActive = true ∨ t.txIns = t.txExt) := by
  obtain ⟨r, q, t, hstep, hexec, hnext, hgrow⟩ := State.willPerform_growth h (decode_line_wr .txkick v _) rfl hinv
  obtain ⟨harmed, _, hack⟩ := exec_wrTxkick_next hexec
  exact ⟨t, hstep, State.willPerform_nil.1 hnext, hgrow, hack, harmed⟩

/-- The whole call: its bytes join the queue, and a block takes them (R135, R227). -/
theorem perform_write {p : List Byte} {s : State} {rest : List Request} (hinv : s.Inv)
    (h : s.willPerform (expandWrite p (txFree s)) rest) :
    ∃ t, runSteps (expandWrite p (txFree s)).length s = .next t ∧ t.script = rest ∧
      QueueGrowth (p.take (writeResult p.length (txFree s))) s t ∧
      (0 < writeResult p.length (txFree s) → t.stTxack = true ∧ (t.txActive = true ∨ t.txIns = t.txExt)) := by
  obtain ⟨u, hstep, _, hnext, hgrow⟩ := perform_rdTxfree hinv h
  have hlen := length_take_writeResult p (txFree s)
  obtain ⟨t, hrun, hlast, hgrow', hack⟩ := runSteps_txdata _ u _ rest hgrow.inv
    (hlen.le.trans ((Nat.min_le_right _ _).trans hgrow.free)) hnext
  replace hrun := (runSteps_succ _ _ _ hstep).trans hrun
  replace hgrow := hgrow.trans hgrow'
  rw [hlen] at hrun
  rw [length_expandWrite]
  by_cases hpos : 0 < writeResult p.length (txFree s)
  · rw [if_pos hpos] at hlast ⊢
    obtain ⟨v, hkick, hscript, hgrow'', hkept, harmed⟩ := perform_txkick hgrow'.inv hlast
    have hne : p.take (writeResult p.length (txFree s)) ≠ [] := List.ne_nil_of_length_pos (hpos.trans_eq hlen.symm)
    refine ⟨v, ?_, hscript, ?_, fun _ => ⟨hkept.trans (hack (.inr hne)), harmed⟩⟩
    · rw [runSteps_add _ 1 _ _ hrun, runSteps_one, hkick]
    · simpa using hgrow.trans hgrow''
  · rw [if_neg hpos] at hlast ⊢
    exact ⟨t, hrun, State.willPerform_nil.1 hlast, hgrow, fun h => absurd h hpos⟩

/-- Settles O53: the call is `perform_write`, its first line `perform_rdTxfree`, and an empty ring is free but for one
place. -/
theorem writeCallAcceptsWhatFits : Obligations.WriteCallAcceptsWhatFits := by
  intro p rest s hinv h
  refine ⟨?_, ?_, fun he => ?_⟩
  · obtain ⟨u, hstep, hresp, _⟩ := perform_rdTxfree hinv h
    exact ⟨u, (runSteps_one s).trans hstep, hresp⟩
  · obtain ⟨t, hrun, hscript, hgrow, hdone⟩ := perform_write hinv h
    exact ⟨t, hrun, hscript, hgrow.traffic, hdone⟩
  · rw [hinv.transmitInv.txFree_of_txEmpty he]
    exact ⟨Nat.min_self _, Nat.min_eq_right (Nat.sub_le _ _)⟩

end Sys2Proof.Machine

/-! The control operations (R151 to R157): CTRL, STATUS, PARAM, the ignored writes, and the idle `clk` edge. -/

namespace Sys2Proof.Machine

/-! ### The words of CTRL, STATUS and PARAM -/

theorem ctrlWord_eq_concat (s : State) : ctrlWord s = ((0#30).concat s.ctrlTcie).concat s.ctrlRxen := rfl

/-- The CTRL word bit by bit (R61). -/
theorem getLsbD_ctrlWord (s : State) :
    (ctrlWord s).getLsbD 0 = s.ctrlRxen ∧ (ctrlWord s).getLsbD 1 = s.ctrlTcie ∧
      ∀ j, 2 ≤ j → (ctrlWord s).getLsbD j = false := by
  rw [ctrlWord_eq_concat]
  refine ⟨BitVec.getLsbD_concat_zero, BitVec.getLsbD_concat_succ.trans BitVec.getLsbD_concat_zero, fun j hj => ?_⟩
  obtain ⟨k, rfl⟩ := Nat.exists_eq_add_of_le' hj
  simp [BitVec.getLsbD_concat_succ]

theorem statusWord_eq_concat (s : State) :
    statusWord s = (((((((0#25).concat s.stTxack).concat s.stTc).concat (txBusy s)).concat (txFull s)).concat
      (txEmpty s)).concat (rxFull s)).concat (rxNe s) := rfl

/-- The STATUS word bit by bit (R62). -/
theorem getLsbD_statusWord (s : State) :
    (statusWord s).getLsbD 0 = rxNe s ∧ (statusWord s).getLsbD 1 = rxFull s ∧ (statusWord s).getLsbD 2 = txEmpty s ∧
      (statusWord s).getLsbD 3 = txFull s ∧ (statusWord s).getLsbD 4 = txBusy s ∧ (statusWord s).getLsbD 5 = s.stTc ∧
      (statusWord s).getLsbD 6 = s.stTxack ∧ ∀ j, 7 ≤ j → (statusWord s).getLsbD j = false := by
  rw [statusWord_eq_concat]
  refine ⟨by simp, by simp, by simp, by simp, by simp, by simp, by simp, fun j hj => ?_⟩
  obtain ⟨k, rfl⟩ := Nat.exists_eq_add_of_le' hj
  simp [BitVec.getLsbD_concat_succ]

/-- The legal ranges of the address widths and the stages (`00_scope.md` section 4). -/
theorem Config.widths_le (c : Config) : c.rxAw ≤ 16 ∧ c.txAw ≤ 16 ∧ c.syncStages ≤ 8 := by
  have h := c.legal
  simp only [paramsLegal, Bool.and_eq_true, decide_eq_true_eq] at h
  omega

theorem toNat_append_eq_add {m n : Nat} (x : BitVec m) (y : BitVec n) :
    (x ++ y).toNat = x.toNat * 2 ^ n + y.toNat := by
  rw [BitVec.toNat_append, ← Nat.shiftLeft_add_eq_or_of_lt y.isLt, Nat.shiftLeft_eq]

/-- Each parameter fits its field of the PARAM word (R77). -/
theorem toNat_paramWord (c : Config) :
    (paramWord c).toNat = c.rxAw + 2 ^ 8 * c.txAw + 2 ^ 16 * c.syncStages + 2 ^ 24 := by
  obtain ⟨hrx, htx, hsync⟩ := Config.widths_le c
  simp only [paramWord, toNat_append_eq_add, BitVec.toNat_ofNat]
  omega

/-! ### The flags of STATUS (R51 to R54) -/

theorem rxNe_eq_decide (s : State) : rxNe s = decide (rxWsync s ≠ s.rxRptr) := by
  simp [rxNe, rxEmpty, beq_eq_decide]

theorem rxFull_eq_decide (s : State) :
    rxFull s = decide (((rxWsync s : Int) - s.rxRptr) % s.cfg.rxCap = s.cfg.rxCap - 1) := by
  have hpos := Config.rxCap_pos s.cfg
  have hcount := wrapSub_int s.cfg.rxCap (rxWsync s) s.rxRptr hpos
  rw [Bool.eq_iff_iff, rxFull_iff, decide_eq_true_iff, ← hcount, rxCount, ringCount]
  omega

theorem txEmpty_eq_decide (s : State) : txEmpty s = decide (s.txIns = s.txExt) := by
  rw [Bool.eq_iff_iff, txEmpty_iff, decide_eq_true_iff]

theorem txFull_eq_decide (s : State) :
    txFull s = decide ((s.txIns : Int) = ((s.txExt : Int) - 1) % s.cfg.txCap) := by
  rw [Bool.eq_iff_iff, txFull_iff, decide_eq_true_iff]

/-! ### Operations without side effect -/

/-- An operation that only answers is a plain edge (R94). -/
theorem answersPlain_of_exec {i : Instr} {s : State} {v : Word} {ok : Word → Prop}
    (h : exec i s = .next (respond v false (edgeParts s))) (hok : ok v) : AnswersPlain i s ok :=
  ⟨_, v, h, hok, respond_plainEdge v s⟩

/-- Settles O8: the three words are `getLsbD_ctrlWord`, `getLsbD_statusWord` and `toNat_paramWord`. -/
theorem controlReadsAnswer : Obligations.ControlReadsAnswer := by
  intro s w
  refine ⟨decode_readDesc .ctrl w, decode_readDesc .status w, decode_readDesc .param w,
    answersPlain_of_exec rfl (getLsbD_ctrlWord s), answersPlain_of_exec rfl ?_,
    answersPlain_of_exec rfl (toNat_paramWord s.cfg)⟩
  rw [← rxNe_eq_decide, ← rxFull_eq_decide, ← txEmpty_eq_decide, ← txFull_eq_decide]
  exact getLsbD_statusWord s

/-- A write of a read-only register is a transaction without side effect, and answers 0 (R156). -/
theorem exec_writeInstr_of_plain (r : Reg) (v : Word) (s : State) (h : isPlain (writeInstr r v) = true) :
    exec (writeInstr r v) s = .next (respond 0#32 false (edgeParts s)) := by
  cases r with
  | ctrl | status | txdata | txkick => cases h
  | _ => rfl

theorem write_readOnly_ignored (r : Reg) (v : Word) (s : State) (h : isPlain (writeInstr r v) = true) :
    decode (writeDesc r) v = .instr (writeInstr r v) ∧ AnswersPlain (writeInstr r v) s (fun d => d = 0#32) :=
  ⟨decode_writeDesc r v, answersPlain_of_exec (exec_writeInstr_of_plain r v s h) rfl⟩

/-- Settles O12: `write_readOnly_ignored`, register by register. -/
theorem writesToReadOnlyRegistersAreIgnored : Obligations.WritesToReadOnlyRegistersAreIgnored := fun s v =>
  ⟨write_readOnly_ignored .rxdata v s rfl, write_readOnly_ignored .rxcursor v s rfl,
    write_readOnly_ignored .rxremain v s rfl, write_readOnly_ignored .rxextract v s rfl,
    write_readOnly_ignored .rxcount v s rfl, write_readOnly_ignored .txinsert v s rfl,
    write_readOnly_ignored .txextract v s rfl, write_readOnly_ignored .txptr v s rfl,
    write_readOnly_ignored .txlen v s rfl, write_readOnly_ignored .txremain v s rfl,
    write_readOnly_ignored .txcount v s rfl, write_readOnly_ignored .txfree v s rfl,
    write_readOnly_ignored .param v s rfl⟩

/-! ### Writes of CTRL and STATUS -/

/-- Settles O13: the register part of a CTRL write is written over the edge parts, which neither rule of the edge nor
the rest of the frame reads. -/
theorem writeCtrlSetsTheTwoEnables : Obligations.WriteCtrlSetsTheTwoEnables := by
  intro s v
  obtain ⟨henv, hrx, hconsumer, _, hproducer, hrecord⟩ := edgeParts_plainFrame s
  exact ⟨decode_writeDesc .ctrl v, _, rfl, rfl, rfl, rfl, rfl, edgeParts_edgeRule s, edgeParts_tcRule s, henv, hrx,
    hconsumer, hproducer, hrecord⟩

/-- A STATUS write has no effect but on TC (R154). -/
theorem writeStatus_eq_withTc (v : Word) (pre post : State) :
    writeStatus v pre post = { post with stTc := (writeStatus v pre post).stTc } := by
  rcases writeStatus_cases v pre post with ⟨_, _, h⟩ | ⟨_, h⟩ <;> rw [h]
  rfl

/-- TC after a STATUS write: a completion step at the same edge wins over the bit that clears it (R154). -/
theorem stTc_writeStatus (v : Word) (s : State) :
    (writeStatus v s (edgeParts s)).stTc = (txDone s || (s.stTc && !v.getLsbD 5)) := by
  change _ = (txDone s || (s.stTc && !statusTcBit v))
  rcases writeStatus_cases v s (edgeParts s) with ⟨hd, hv, h⟩ | ⟨hd | hv, h⟩
  · simp [h, hd, hv]
  · simp [h, hd]
  · simp [h, hv]

/-- Settles O14: TC is `stTc_writeStatus`, and nothing else is written over the edge parts. -/
theorem writeStatusClearsTcUnlessSet : Obligations.WriteStatusClearsTcUnlessSet := by
  intro s v
  have htc := stTc_writeStatus v s
  refine ⟨decode_writeDesc .status v, _, rfl, rfl, fun hdone => ?_, fun hphase hv => ?_, fun hphase hv => ?_, ?_⟩
  · rw [respond_stTc, htc, (txDone_iff s).2 hdone, Bool.true_or]
  · rw [respond_stTc, htc, txDone_eq_false s hphase, hv, Bool.not_true, Bool.and_false, Bool.or_false]
  · rw [respond_stTc, htc, txDone_eq_false s hphase, hv, Bool.not_false, Bool.and_true, Bool.false_or]
  · rw [writeStatus_eq_withTc]
    exact ⟨edgeParts_edgeRule s, edgeParts_plainFrame s⟩

/-! ### The idle edge -/

/-- A chain whose stages all hold the sample does not change. -/
theorem shiftIn_of_forall_eq {α : Type} (x : α) (l : List α) (h : ∀ y ∈ l, y = x) : shiftIn x l = l := by
  rw [List.eq_replicate_of_mem h, shiftIn, ← List.replicate_succ, List.take_replicate, List.length_replicate,
    Nat.min_eq_left (Nat.le_succ _)]

theorem syncShift_of_rxSettled (s : State) (h : s.rxSettled) : syncShift s s = s := by
  rw [syncShift, shiftIn_of_forall_eq _ _ h]

/-- Settles O16: an idle edge is the edge parts alone, and a settled synchronizer shifts into itself. -/
theorem idleClockEdgeDoesOnlyTheEdgeParts : Obligations.IdleClockEdgeDoesOnlyTheEdgeParts := by
  intro s w
  refine ⟨decode_encode .evClk w, _, rfl, rfl, edgeParts_edgeRule s, edgeParts_tcRule s, edgeParts_plainFrame s, ?_⟩
  intro hidle hsettled
  rw [edgeParts_of_idle s hidle, syncShift_of_rxSettled s hsettled]
  rfl

end Sys2Proof.Machine

/-! The receive operations (R170, R171, R180, R190 to R195): the reads of the `clk` domain's view, the pop, and the capture
of an `rx_clk` edge. -/

namespace Sys2Proof.Machine

/-! ### The two synchronizer chains -/

/-- A chain that has shifted obeys the rule of R180 stage by stage. -/
theorem syncRule_of_shiftIn {s t : State} (h : t.rxSync = shiftIn s.rxWgray s.rxSync) : SyncRule s t :=
  ⟨by rw [h, shiftIn_length], fun j hj => by rw [h, shiftIn_getElem? _ _ j hj]⟩

/-- The same for the enable chain (R170). -/
theorem enableRule_of_shiftIn {s t : State} (h : t.rxenSync = shiftIn s.ctrlRxen s.rxenSync) : EnableRule s t :=
  ⟨by rw [h, shiftIn_length], fun j hj => by rw [h, shiftIn_getElem? _ _ j hj]⟩

/-- No register part writes the pointer synchronizer (R42). -/
theorem RegisterEffect.rxSync_eq {s u : State} {i : Instr} (h : RegisterEffect s (edgeParts s) i u) :
    u.rxSync = shiftIn s.rxWgray s.rxSync := by
  cases h <;> exact edgeParts_rxSync s

/-- Settles O22: the edge parts shift the chain, and no transaction writes over it. -/
theorem synchronizerShiftsAtEveryClkEdge : Obligations.SynchronizerShiftsAtEveryClkEdge := by
  intro i s hclk
  obtain ⟨u, answer, heffect, hexec⟩ := exec_clkEdge i s hclk
  exact ⟨_, hexec, syncRule_of_shiftIn heffect.rxSync_eq⟩

/-! ### The words of the receive reads -/

theorem Config.rxCap_le (c : Config) : c.rxCap ≤ 2 ^ 16 :=
  Nat.pow_le_pow_right (by decide) (Config.widths_le c).1

/-- No number up to a capacity is cut off in a register word. -/
theorem toNat_zext32 {c : Config} {n : Nat} (h : n ≤ c.rxCap) : (zext32 n).toNat = n := by
  have hcap := Config.rxCap_le c
  rw [zext32, BitVec.toNat_ofNat, Nat.mod_eq_of_lt (by omega)]

theorem rxRemainImage_of_zero (s : State) (h : rxWsync s = 0) : rxRemainImage s = s.cfg.rxCap := if_pos h

theorem rxRemainImage_of_ne_zero (s : State) (h : rxWsync s ≠ 0) : rxRemainImage s = s.cfg.rxCap - rxWsync s :=
  if_neg h

/-- RXREMAIN is never 0, and tells the position seen by the source's formula (R193). -/
theorem rxRemainImage_bounds (s : State) :
    1 ≤ rxRemainImage s ∧ rxRemainImage s ≤ s.cfg.rxCap ∧
      (s.cfg.rxCap - rxRemainImage s) % s.cfg.rxCap = rxWsync s := by
  have hpos := Config.rxCap_pos s.cfg
  have hlt := rxWsync_lt s
  by_cases h : rxWsync s = 0
  · rw [rxRemainImage_of_zero s h, h, Nat.sub_self, Nat.zero_mod]
    omega
  · rw [rxRemainImage_of_ne_zero s h, Nat.sub_sub_self hlt.le, Nat.mod_eq_of_lt hlt]
    omega

theorem rxCount_int (s : State) : (rxCount s : Int) = ((rxWsync s : Int) - s.rxRptr) % s.cfg.rxCap :=
  wrapSub_int _ _ _ (Config.rxCap_pos _)

theorem rxCount_lt (s : State) : rxCount s < s.cfg.rxCap := wrapSub_lt _ _ _ (Config.rxCap_pos _)

/-- Settles O9: the four reads are plain edges, and each value is at most RX_CAP, so its word holds it whole. -/
theorem receiveReadsAnswer : Obligations.ReceiveReadsAnswer := by
  intro s w
  have hlt := rxWsync_lt s
  obtain ⟨hpos, hle, hposition⟩ := rxRemainImage_bounds s
  have hcursor : (zext32 (rxWsync s)).toNat = rxWsync s := toNat_zext32 hlt.le
  have hremain : (zext32 (rxRemainImage s)).toNat = rxRemainImage s := toNat_zext32 hle
  have hcount : (zext32 (rxCount s)).toNat = rxCount s := toNat_zext32 (rxCount_lt s).le
  refine ⟨decode_readDesc .rxcursor w, decode_readDesc .rxremain w, decode_readDesc .rxextract w,
    decode_readDesc .rxcount w, answersPlain_of_exec rfl ?_, answersPlain_of_exec rfl ?_,
    answersPlain_of_exec rfl ⟨rfl, fun hw => ?_⟩, answersPlain_of_exec rfl ?_⟩
  · rw [hcursor]
    exact ⟨rfl, hlt⟩
  · rw [hremain]
    exact ⟨rxRemainImage_of_zero s, rxRemainImage_of_ne_zero s, hpos, hle, hposition⟩
  · rw [toNat_zext32 hw.rxRptr.le]
    exact hw.rxRptr
  · rw [hcount]
    exact rxCount_int s

/-! ### The pop -/

/-- An RXDATA read has no effect but on the consumer (R190). -/
theorem popRx_eq_withConsumer (pre post : State) :
    popRx pre post = { post with
      rxRptr := (popRx pre post).rxRptr, rTotal := (popRx pre post).rTotal, draws := (popRx pre post).draws } := by
  rcases popRx_cases pre post with ⟨_, h⟩ | ⟨_, _, h⟩ | ⟨_, _, h⟩ <;> rw [h] <;> rfl

theorem popRx_of_empty (pre post : State) (h : rxEmpty pre = true) : popRx pre post = post := if_pos h

/-- A pop moves the cursor on by one, overrun or not (R190, R191). -/
theorem popRx_cursor (pre post : State) (h : rxEmpty pre = false) :
    (popRx pre post).rxRptr = (pre.rxRptr + 1) % pre.cfg.rxCap ∧ (popRx pre post).rTotal = pre.rTotal + 1 := by
  rcases popRx_cases pre post with ⟨he, _⟩ | ⟨_, _, e⟩ | ⟨_, _, e⟩
  · simp [h] at he
  · simp [e, wrap]
  · simp [e, wrap]

theorem rxEmpty_eq_false_iff (s : State) : rxEmpty s = false ↔ rxWsync s ≠ s.rxRptr := by simp [rxEmpty]

/-- Settles O15: the word is `rxdataWord`, and the register part writes nothing but the consumer over the edge parts. -/
theorem readRxdataPopsOrAnswersSentinel : Obligations.ReadRxdataPopsOrAnswersSentinel := by
  intro s w
  have hempty := rxEmpty_iff s
  have hnonempty := rxEmpty_eq_false_iff s
  refine ⟨decode_readDesc .rxdata w, _, rxdataWord s, rfl, rfl, (rxdataWord_eq_sentinel_iff s).trans hempty,
    fun he => ?_, fun hne => popRx_cursor s (edgeParts s) (hnonempty.2 hne),
    fun hne ho => rxdataWord_of_noOverrun s (hnonempty.2 hne) ho, fun hne => ⟨rxPopByte s, ?_⟩, ?_⟩
  · rw [popRx_of_empty s _ (hempty.2 he)]
    exact ⟨edgeParts_rxRptr s, edgeParts_rTotal s⟩
  · rw [rxdataWord, hnonempty.2 hne]
    rfl
  · obtain ⟨henv, hrx, _, hctrl, hproducer, hrecord⟩ := edgeParts_plainFrame s
    rw [popRx_eq_withConsumer]
    exact ⟨edgeParts_edgeRule s, edgeParts_tcRule s, henv, hrx, hctrl, hproducer, hrecord⟩

/-! ### The `rx_clk` edge, element by element (R170, R171, R173) -/

section RxEdge
variable (v : Bool) (b : Byte) (s : State)

theorem rxEdge_rxenSync : (rxEdge v b s).rxenSync = shiftIn s.ctrlRxen s.rxenSync := by
  rcases rxEdge_cases v b s with ⟨_, _, e⟩ | ⟨_, e⟩ <;> rw [e] <;> rfl

theorem rxEdge_rxmem :
    (rxEdge v b s).rxmem = if v && rxEnabled s then Memory.write s.rxmem (rxWptr s) b else s.rxmem :=
  apply_ite State.rxmem _ _ _

theorem rxEdge_rxRemain :
    (rxEdge v b s).rxRemain =
      if v && rxEnabled s then (if s.rxRemain = 1 then s.cfg.rxCap else s.rxRemain - 1) else s.rxRemain :=
  apply_ite State.rxRemain _ _ _

theorem rxEdge_rxWgray :
    (rxEdge v b s).rxWgray = if v && rxEnabled s then bin2gray (wrap s.cfg.rxCap (rxWptr s + 1)) else s.rxWgray :=
  apply_ite State.rxWgray _ _ _

theorem rxEdge_wTotal : (rxEdge v b s).wTotal = if v && rxEnabled s then s.wTotal + 1 else s.wTotal :=
  apply_ite State.wTotal _ _ _

theorem rxEdge_envKept : EnvKept s (rxEdge v b s) := by
  rcases rxEdge_cases v b s with ⟨_, _, e⟩ | ⟨_, e⟩ <;> rw [e] <;> exact ⟨⟨rfl, rfl, rfl⟩, rfl⟩

end RxEdge

/-- The remaining count goes down, or reloads from 1, exactly as the insert cursor goes up modulo RX_CAP (R39, R171). -/
theorem rxWptr_of_capture {s t : State} (hpos : 1 ≤ s.rxRemain) (hle : s.rxRemain ≤ s.cfg.rxCap)
    (hcfg : t.cfg = s.cfg) (hremain : t.rxRemain = if s.rxRemain = 1 then s.cfg.rxCap else s.rxRemain - 1) :
    rxWptr t = (rxWptr s + 1) % s.cfg.rxCap := by
  have hcap := Config.rxCap_pos s.cfg
  have hbounds : 1 ≤ t.rxRemain ∧ t.rxRemain ≤ t.cfg.rxCap := by
    rw [hremain, hcfg]
    split <;> omega
  rw [rxWptr_eq_sub t hbounds.1 hbounds.2, rxWptr_eq_sub s hpos hle, hcfg, hremain]
  split
  · next hlast => rw [hlast, Nat.sub_add_cancel hcap, Nat.mod_self, Nat.sub_self]
  · rw [Nat.mod_eq_of_lt (by omega)]
    omega

/-- The descriptor of event RX as a number (R127). -/
theorem toNat_encode_evRx (v : Bool) (b : Byte) :
    (encode (.evRx v b)).1.toNat = 0x9000 + v.toNat * 256 + b.toNat := by
  rw [encode_evRx, Desc.toNat_append, rxArg, toNat_append_eq_add, toNat_append_eq_add, BitVec.toNat_ofBool]
  simp only [BitVec.toNat_ofNat]
  omega

theorem ofNat_eq_encode_evRx (v : Bool) (b : Byte) :
    BitVec.ofNat 16 (0x9000 + v.toNat * 256 + b.toNat) = (encode (.evRx v b)).1 := by
  rw [← toNat_encode_evRx, BitVec.ofNat_toNat, BitVec.setWidth_eq]

/-- Settles O17: the two clauses are the two branches of the equations for `rxEdge`. -/
theorem receiveEdgeCaptures : Obligations.ReceiveEdgeCaptures := by
  intro s v b w
  have hdecode : decode (BitVec.ofNat 16 (0x9000 + v.toNat * 256 + b.toNat)) w = .instr (.evRx v b) := by
    rw [ofNat_eq_encode_evRx, decode_encode_evRx]
  refine ⟨hdecode, rxEdge v b s, rfl, enableRule_of_shiftIn (rxEdge_rxenSync v b s), rxEdge_envKept v b s,
    rxEdge_clkDomainKept v b s, fun hv hstage => ?_, fun hno => ?_⟩
  · have hcapture : (v && rxEnabled s) = true := by rw [hv, (rxEnabled_iff s).2 hstage, Bool.and_self]
    have hremain := rxEdge_rxRemain v b s
    rw [if_pos hcapture] at hremain
    rw [rxEdge_rxmem, rxEdge_rxWgray, rxEdge_wTotal, if_pos hcapture, if_pos hcapture, if_pos hcapture]
    exact ⟨Memory.read?_write_same _ _ _, fun a ha => Memory.read?_write_other _ _ _ _ ha,
      fun hlast => hremain.trans (if_pos hlast), fun hmore => hremain.trans (if_neg hmore), rfl, rfl,
      fun hpos hle => rxWptr_of_capture hpos hle (rxEdge_cfg v b s) hremain⟩
  · have hidle : ¬(v && rxEnabled s) = true := by
      rw [Bool.and_eq_true, rxEnabled_iff]
      rintro ⟨hv, hstage⟩
      rcases hno with hno | hno
      · simp [hv] at hno
      · exact hno hstage
    rw [rxEdge_rxRemain, rxEdge_rxWgray, rxEdge_wTotal, rxEdge_rxmem, if_neg hidle, if_neg hidle, if_neg hidle,
      if_neg hidle]
    exact ⟨rfl, rfl, rfl, fun _ => rfl⟩

/-- Settles O34: the right-hand sides of the equations for `rxEdge` name no element of the `clk` domain but
`ctrl_rxen`. -/
theorem captureIgnoresTheConsumer : Obligations.CaptureIgnoresTheConsumer := by
  intro s u v b hcfg hmem hremain hgray hstages htotal hrxen
  have henabled : rxEnabled u = rxEnabled s := by rw [rxEnabled, rxEnabled, hcfg, hstages]
  have hptr : rxWptr u = rxWptr s := by rw [rxWptr, rxWptr, hcfg, hremain]
  refine ⟨rxEdge v b s, rxEdge v b u, rfl, rfl, ?_, ?_, ?_, ?_, ?_⟩
  · rw [rxEdge_rxmem, rxEdge_rxmem, henabled, hptr, hmem]
  · rw [rxEdge_rxRemain, rxEdge_rxRemain, henabled, hcfg, hremain]
  · rw [rxEdge_rxWgray, rxEdge_rxWgray, henabled, hcfg, hptr, hgray]
  · rw [rxEdge_rxenSync, rxEdge_rxenSync, hrxen, hstages]
  · rw [rxEdge_wTotal, rxEdge_wTotal, henabled, htotal]

end Sys2Proof.Machine

/-! The settled ring (R183, R312): what the `clk` domain sees then, and the `clk` edges that settle it (R182, R300,
entry 14). -/

namespace Sys2Proof.Machine

/-! ### What a settled synchronizer shows -/

/-- In a settled state the last stage, like every other, holds `rx_wgray`. -/
theorem lastStage_of_rxSettled {s : State} (hlen : s.rxSync.length = s.cfg.syncStages) (h : s.rxSettled) :
    lastStage s.cfg.syncStages s.rxSync 0 = s.rxWgray := by
  have hpos := Config.syncStages_pos s.cfg
  have hlast : s.cfg.syncStages - 1 < s.rxSync.length := by omega
  rw [lastStage, List.getD_eq_getElem _ _ hlast]
  exact h _ (List.getElem_mem hlast)

theorem State.ReceiveInv.rxWsync_of_rxSettled {s : State} (hinv : s.ReceiveInv) (h : s.rxSettled) :
    rxWsync s = s.wTotal % s.cfg.rxCap :=
  rxWsync_eq_of_lastStage s _ ((lastStage_of_rxSettled hinv.syncLength h).trans hinv.gray)

/-- Settles O49: both cursors are totals modulo RX_CAP. -/
theorem settledCountIsTrueCountModCapacity : Obligations.SettledCountIsTrueCountModCapacity := by
  intro s hinv hsettled
  have hrx := hinv.receiveInv
  have hcap := Config.rxCap_pos s.cfg
  have hcount : rxCount s = (s.wTotal - s.rTotal) % s.cfg.rxCap := by
    rw [rxCount, hrx.rxWsync_of_rxSettled hsettled, hrx.cursor, ringCount_mod _ _ _ hcap hrx.rTotal_le]
  have hzero : rxCount s = 0 ↔ rxWsync s = s.rxRptr :=
    ringCount_eq_zero_iff _ _ _ (rxWsync_lt s) hinv.widths.rxRptr
  exact ⟨hcount, by rw [rxEmpty_iff, ← hzero, hcount]⟩

/-! ### The steps that are `clk` edges -/

/-- The encoded descriptors of the other operations stand above those of the `clk` edges (R122, R129). -/
theorem isClkEdge_of_decode {d : Desc} {w : Word} {i : Instr} (hd : d.toNat ≤ 0x8000)
    (h : decode d w = .instr i) : isClkEdge i = true := by
  by_contra hclk
  have hdesc := encode_of_decode d w i h
  rcases eq_evRx_or_evReset i (by simpa using hclk) with ⟨v, b, rfl⟩ | rfl
  · have hnum := toNat_encode_evRx v b
    rw [hdesc] at hnum
    omega
  · have hnum : d.toNat = 0xA000 := by rw [← hdesc]; rfl
    omega

/-- What a request for a `clk` edge decodes to (R98, R131). -/
theorem decode_clkRequest {r : Request} (h : isClkRequest r = true) :
    (∃ i, decode r.desc r.wdata = .instr i ∧ isClkEdge i = true) ∨ ∃ c, decode r.desc r.wdata = .busError c := by
  have hle : r.desc.toNat ≤ 0x8000 := of_decide_eq_true h
  cases hd : decode r.desc r.wdata with
  | instr i => exact .inl ⟨i, rfl, isClkEdge_of_decode hle hd⟩
  | busError c => exact .inr ⟨c, rfl⟩
  | refused why =>
    have hrange := (decode_eq_refused_iff_range r.desc r.wdata why).1 hd
    cases why <;> simp only [refusedRange] at hrange <;> omega

/-- The pointer synchronizer has shifted `n` times, and the producer has stood still. -/
structure PointerShifts (n : Nat) (s t : State) : Prop where
  cfg : t.cfg = s.cfg
  remain : t.rxRemain = s.rxRemain
  gray : t.rxWgray = s.rxWgray
  stages : t.rxSync = (shiftIn s.rxWgray)^[n] s.rxSync

theorem PointerShifts.refl (s : State) : PointerShifts 0 s s := ⟨rfl, rfl, rfl, rfl⟩

theorem PointerShifts.head {n : Nat} {s t u : State} (h : PointerShifts 1 s t) (h' : PointerShifts n t u) :
    PointerShifts (n + 1) s u where
  cfg := h'.cfg.trans h.cfg
  remain := h'.remain.trans h.remain
  gray := h'.gray.trans h.gray
  stages := by rw [h'.stages, h.gray, h.stages, ← Function.iterate_add_apply]

theorem step_of_busError {s : State} {r : Request} {rest : List Request} {c : BusErrorCause}
    (hscript : s.script = r :: rest) (h : decode r.desc r.wdata = .busError c) :
    step s = .next (busErrorEdge c r.desc (takeRequest r rest s)) := by
  simp [step, hscript, h]

/-- Every step that is a `clk` edge, bus errors among them, shifts the synchronizer once (R99, R180, R260). -/
theorem step_clkRequest {s : State} {r : Request} {rest : List Request} (hscript : s.script = r :: rest)
    (h : isClkRequest r = true) : ∃ t, step s = .next t ∧ t.script = rest ∧ PointerShifts 1 s t := by
  rcases decode_clkRequest h with ⟨i, hd, hclk⟩ | ⟨c, hd⟩
  · obtain ⟨u, answer, heffect, hexec⟩ := exec_clkEdge i (takeRequest r rest s) hclk
    obtain ⟨hremain, hgray, _⟩ := heffect.receiveSide_kept
    exact ⟨_, (step_of_instr s r rest i hscript hd).trans hexec, heffect.script_eq,
      ⟨exec_cfg i (takeRequest r rest s) _ hexec, hremain, hgray, heffect.rxSync_eq⟩⟩
  · refine ⟨_, step_of_busError hscript hd, by simp [busErrorEdge], ?_⟩
    constructor <;> simp [busErrorEdge]

/-- A run of `clk` edges completes and shifts the synchronizer once for each of them. -/
theorem runSteps_clkRequests (reqs rest : List Request) (s : State) (hscript : s.script = reqs ++ rest)
    (h : ∀ r ∈ reqs, isClkRequest r = true) :
    ∃ t, runSteps reqs.length s = .next t ∧ t.script = rest ∧ PointerShifts reqs.length s t := by
  induction reqs generalizing s with
  | nil => exact ⟨s, rfl, hscript, .refl s⟩
  | cons r reqs ih =>
    obtain ⟨hr, hreqs⟩ := List.forall_mem_cons.1 h
    obtain ⟨u, hstep, hnext, hshift⟩ := step_clkRequest hscript hr
    obtain ⟨t, hrun, hrest, hshifts⟩ := ih u hnext hreqs
    exact ⟨t, (runSteps_succ _ s u hstep).trans hrun, hrest, hshift.head hshifts⟩

/-! ### The edges that settle the ring -/

/-- The invariant holds along a run. -/
theorem runSteps_inv (n : Nat) (s t : State) (hinv : s.Inv) (h : runSteps n s = .next t) : t.Inv := by
  induction n generalizing s with
  | zero => exact Host.Outcome.next.inj h ▸ hinv
  | succ n ih =>
    obtain ⟨u, hstep, hrun⟩ := (runSteps_succ_next n s t).1 h
    exact ih u (everyStepKeepsTheInvariant s u hinv hstep) hrun

/-- As many shifts as there are stages, or more, leave nothing but the sample in a chain. -/
theorem iterate_shiftIn_eq_replicate {α : Type} (x : α) (n : Nat) (l : List α) (h : l.length ≤ n) :
    (shiftIn x)^[n] l = List.replicate l.length x := by
  rw [iterate_shiftIn, List.take_append_of_le_length (by simpa using h), List.take_replicate, Nat.min_eq_left h]

theorem PointerShifts.rxSettled {n : Nat} {s t : State} (h : PointerShifts n s t) (hn : s.rxSync.length ≤ n) :
    t.rxSettled := by
  intro g hg
  rw [h.stages, iterate_shiftIn_eq_replicate _ _ _ hn] at hg
  rw [h.gray, List.eq_of_mem_replicate hg]

theorem PointerShifts.rxWptr_eq {n : Nat} {s t : State} (h : PointerShifts n s t) : rxWptr t = rxWptr s := by
  rw [rxWptr, rxWptr, h.cfg, h.remain]

/-- Settles O35: the edges settle the ring, and in a settled ring the position seen is the producer's. -/
theorem producerPositionCrossesInSyncStages : Obligations.ProducerPositionCrossesInSyncStages := by
  intro reqs rest s hinv hscript hlen hclk
  obtain ⟨t, hrun, hrest, hshifts⟩ := runSteps_clkRequests reqs rest s hscript hclk
  have hrx : t.ReceiveInv := (runSteps_inv _ s t hinv hrun).receiveInv
  have hsettled : t.rxSettled := hshifts.rxSettled (hinv.widths.rxSyncLength ▸ hlen)
  have hseen : rxWsync t = rxWptr t := (hrx.rxWsync_of_rxSettled hsettled).trans hrx.rxWptr_eq.symm
  exact ⟨t, hrun, hrest, hseen.trans hshifts.rxWptr_eq, hshifts.rxWptr_eq⟩

end Sys2Proof.Machine

/-! What the TX engine does at a `clk` edge whatever its transaction (R220, R222, R238): the register parts leave it to
the edge parts, but for a kick of an idle engine. -/

namespace Sys2Proof.Machine

/-- No byte leaves while none is offered (R220). -/
theorem edgeParts_txStream (s : State) (h : txValidO s = false) : (edgeParts s).txStream = s.txStream := by
  rcases engineEdge_cases s (syncShift s s) with ⟨_, _, e⟩ | ⟨_, _, e⟩ | ⟨_, hv, _, _⟩ | ⟨_, _, e⟩
  · simp [edgeParts, e]
  · simp [edgeParts, e]
  · simp [h] at hv
  · simp [edgeParts, e]

/-- The byte offered is the one at the transfer pointer (R57). -/
theorem txDataO_eq_some_iff (s : State) (b : Byte) :
    txDataO s = some b ↔ txValidO s = true ∧ txByte s s.txPtr = b := by
  rw [txDataO, Option.ite_none_right_eq_some, Option.some_inj]

section ClkEdge
variable {s u : State} {i : Instr}

/-- No register part puts a byte on the wire (R221). -/
theorem RegisterEffect.txStream_eq {pre post : State} (h : RegisterEffect pre post i u) :
    u.txStream = post.txStream := by
  cases h <;> rfl

/-- While a block is armed the engine's registers are the edge parts' alone: a kick arms from idle only (R212). -/
theorem RegisterEffect.armedRules (h : RegisterEffect s (edgeParts s) i u) :
    HandshakeRule s u ∧ StallRule s u ∧ CompletionRule s u := by
  obtain ⟨_, hhandshake, hstall, hcompletion, _⟩ := edgeParts_edgeRule s
  cases h with
  | arm v hidle _ =>
    have hnot : s.txActive ≠ true := by simp [hidle]
    exact ⟨fun ha => absurd ha hnot, fun ha => absurd ha hnot, fun ha => absurd ha hnot⟩
  | _ => exact ⟨hhandshake, hstall, hcompletion⟩

/-- With no byte pending nothing arms a block (R212, R238). -/
theorem RegisterEffect.idleRule (h : RegisterEffect s (edgeParts s) i u) (hempty : s.txIns = s.txExt) :
    IdleRule s u := by
  obtain ⟨_, _, _, _, hidle⟩ := edgeParts_edgeRule s
  cases h with
  | arm v _ hpending => simp [(txEmpty_iff s).2 hempty] at hpending
  | _ => exact hidle

/-- Only a completion step sets TC (R49, R222). -/
theorem RegisterEffect.stTc_of_not_done (h : RegisterEffect s (edgeParts s) i u) (hd : txDone s = false)
    (htc : u.stTc = true) : s.stTc = true := by
  rcases h.stTc_writer with e | ⟨e, _⟩
  · rwa [e, hd, Bool.false_or] at htc
  · simp [e] at htc

end ClkEdge

/-- Settles O23: the two rules are `RegisterEffect.armedRules`; the byte offered is the one the handshake takes. -/
theorem handshakeAtEveryClkEdge : Obligations.HandshakeAtEveryClkEdge := by
  intro i s hi
  obtain ⟨u, answer, heffect, hexec⟩ := exec_clkEdge i s hi
  obtain ⟨hhandshake, hstall, _⟩ := heffect.armedRules
  refine ⟨_, hexec, hhandshake, hstall, fun b hb hready => ?_, fun hv => ?_⟩
  · obtain ⟨hv, rfl⟩ := (txDataO_eq_some_iff s b).1 hb
    obtain ⟨ha, hrem⟩ := (txValidO_iff s).1 hv
    obtain ⟨_, _, _, _, _, _, hstream, _⟩ := hhandshake ha hrem hready
    exact hstream
  · exact heffect.txStream_eq.trans (edgeParts_txStream s hv)

/-- Settles O24: the done phase is `RegisterEffect.armedRules`, the other phases the writers of the pulse and of
`tx_ext`. -/
theorem completionStepAtEveryClkEdge : Obligations.CompletionStepAtEveryClkEdge := by
  intro i s hi
  obtain ⟨u, answer, heffect, hexec⟩ := exec_clkEdge i s hi
  obtain ⟨_, _, hcompletion⟩ := heffect.armedRules
  refine ⟨_, hexec, hcompletion, fun hdone => ?_, fun hphase => ?_⟩
  · have hd := (txDone_iff s).2 hdone
    simp [heffect.stTc_eq_of_txDone hd, hd]
  · have hd := txDone_eq_false s hphase
    exact ⟨by simp [heffect.cplPulse_eq, hd], heffect.txExt_writer hd⟩

/-- Settles O25: an idle engine is in neither the done nor the sending phase, so each element named keeps to its
writer; a kick of an empty ring arms nothing. -/
theorem noSpuriousCompletion : Obligations.NoSpuriousCompletion := by
  intro i s hi hidle
  obtain ⟨u, answer, heffect, hexec⟩ := exec_clkEdge i s hi
  have hd : txDone s = false := by simp [txDone, hidle]
  have hv : txValidO s = false := by simp [txValidO, hidle]
  have hins : (∀ v, i ≠ .wrTxdata v) → u.txIns = s.txIns := fun hne => by
    rcases heffect.txRing_writer with ⟨hkept, _⟩ | ⟨⟨v, hv⟩, _⟩
    · exact hkept
    · exact absurd hv (hne v)
  refine ⟨_, hexec, heffect.txExt_writer hd, heffect.stTc_of_not_done hd, by simp [heffect.cplPulse_eq, hd],
    heffect.txStream_eq.trans (edgeParts_txStream s hv), hins, ?_⟩
  rintro hempty ⟨v, rfl⟩
  obtain ⟨hkept, _, _⟩ := heffect.idleRule hempty hidle
  exact ⟨hkept, hins fun w => nofun⟩

end Sys2Proof.Machine

/-! A serializer that takes no byte (R228, U12): each step leaves the engine in its sending phase as it was. -/

namespace Sys2Proof.Machine

/-- From `s` to `t` the block has stood still: engine and extract cursor as they were, no byte left, TC not set. -/
structure BlockStands (s t : State) : Prop where
  engine : EngineKept s t
  stream : t.txStream = s.txStream
  tc : t.stTc = true → s.stTc = true

theorem BlockStands.refl (s : State) : BlockStands s s := ⟨⟨rfl, rfl, rfl, rfl, rfl, rfl⟩, rfl, id⟩

theorem BlockStands.trans {s t u : State} (h : BlockStands s t) (h' : BlockStands t u) : BlockStands s u := by
  obtain ⟨hactive, hstart, hlen, hptr, hrem, hext⟩ := h.engine
  obtain ⟨hactive', hstart', hlen', hptr', hrem', hext'⟩ := h'.engine
  exact ⟨⟨hactive'.trans hactive, hstart'.trans hstart, hlen'.trans hlen, hptr'.trans hptr, hrem'.trans hrem,
    hext'.trans hext⟩, h'.stream.trans h.stream, h.tc ∘ h'.tc⟩

theorem BlockStands.txValidO_eq {s t : State} (h : BlockStands s t) : txValidO t = txValidO s := by
  obtain ⟨hactive, _, _, _, hrem, _⟩ := h.engine
  rw [txValidO, txValidO, hactive, hrem]

/-- A `clk` edge at which the serializer takes no byte (R220). -/
theorem RegisterEffect.blockStands {s u : State} {i : Instr} (h : RegisterEffect s (edgeParts s) i u)
    (hv : txValidO s = true) (hready : s.txReadyI = false) : BlockStands s u := by
  obtain ⟨ha, hrem⟩ := (txValidO_iff s).1 hv
  obtain ⟨_, hstall, _⟩ := h.armedRules
  obtain ⟨hengine, hstream, _⟩ := hstall ha hrem hready
  exact ⟨hengine, hstream, h.stTc_of_not_done (txDone_eq_false s fun hdone => hrem hdone.2)⟩

/-- An `rx_clk` edge writes nothing of the `clk` domain (R98). -/
theorem rxEdge_blockStands (v : Bool) (b : Byte) (s : State) : BlockStands s (rxEdge v b s) := by
  obtain ⟨_, _, _, hengine, _, _, htc, _, hstream⟩ := rxEdge_clkDomainKept v b s
  exact ⟨hengine, hstream, fun h => htc ▸ h⟩

theorem rxEdge_script (v : Bool) (b : Byte) (s : State) : (rxEdge v b s).script = s.script := by
  obtain ⟨⟨_, hscript, _⟩, _⟩ := rxEdge_envKept v b s
  exact hscript

/-- Every operation but a reset. -/
theorem exec_blockStands {i : Instr} {s : State} (hreset : i ≠ .evReset) (hv : txValidO s = true)
    (hready : s.txReadyI = false) : ∃ t, exec i s = .next t ∧ t.script = s.script ∧ BlockStands s t := by
  cases hclk : isClkEdge i with
  | true =>
    obtain ⟨u, answer, heffect, hexec⟩ := exec_clkEdge i s hclk
    obtain ⟨hengine, hstream, htc⟩ := heffect.blockStands hv hready
    exact ⟨_, hexec, heffect.script_eq, hengine, hstream, htc⟩
  | false =>
    obtain ⟨v, b, rfl⟩ := (eq_evRx_or_evReset i hclk).resolve_right hreset
    exact ⟨_, rfl, rxEdge_script v b s, rxEdge_blockStands v b s⟩

/-- The edge of a bus error is an edge without a transaction's effect (R260). -/
theorem busErrorEdge_blockStands (c : BusErrorCause) (d : Desc) {s : State} (hv : txValidO s = true)
    (hready : s.txReadyI = false) : BlockStands s (busErrorEdge c d s) := by
  have heffect : RegisterEffect s (edgeParts s) .evClk (edgeParts s) := .plain .evClk (.inr rfl)
  obtain ⟨hengine, hstream, htc⟩ := heffect.blockStands hv hready
  exact ⟨hengine, hstream, htc⟩

theorem takeRequest_blockStands (r : Request) (rest : List Request) (s : State) :
    BlockStands s (takeRequest r rest s) := ⟨⟨rfl, rfl, rfl, rfl, rfl, rfl⟩, rfl, id⟩

/-- One step with `tx_ready_i = 0`, bus errors included. -/
theorem step_blockStands {s : State} {r : Request} {rest : List Request} (hv : txValidO s = true)
    (hscript : s.script = r :: rest) (hready : r.txReady = false) (hreserved : Desc.isReserved r.desc = false)
    (hreset : r.desc ≠ 0xA000#16) : ∃ t, step s = .next t ∧ t.script = rest ∧ BlockStands s t := by
  have htake := takeRequest_blockStands r rest s
  have hv' : txValidO (takeRequest r rest s) = true := hv
  cases hd : decode r.desc r.wdata with
  | instr i =>
    have hne : i ≠ .evReset := by
      rintro rfl
      exact hreset (encode_of_decode _ _ _ hd).symm
    obtain ⟨t, hexec, hrest, hstands⟩ := exec_blockStands hne hv' hready
    exact ⟨t, (step_of_instr s r rest i hscript hd).trans hexec, hrest, htake.trans hstands⟩
  | busError c =>
    exact ⟨_, step_of_busError hscript hd, by simp [busErrorEdge],
      htake.trans (busErrorEdge_blockStands c r.desc hv' hready)⟩
  | refused why =>
    have := (isReserved_iff_refused r.desc r.wdata).2 ⟨why, hd⟩
    simp [hreserved] at this

/-- Each step leaves the block standing, so the next one finds it in the sending phase again. -/
theorem runSteps_blockStands (reqs rest : List Request) (s : State) (hv : txValidO s = true)
    (hscript : s.script = reqs ++ rest)
    (hreqs : ∀ r ∈ reqs, r.txReady = false ∧ Desc.isReserved r.desc = false ∧ r.desc ≠ 0xA000#16) :
    ∃ t, runSteps reqs.length s = .next t ∧ t.script = rest ∧ BlockStands s t := by
  induction reqs generalizing s with
  | nil => exact ⟨s, rfl, hscript, .refl s⟩
  | cons r reqs ih =>
    obtain ⟨⟨hready, hreserved, hreset⟩, htail⟩ := List.forall_mem_cons.1 hreqs
    obtain ⟨u, hstep, hnext, hstands⟩ := step_blockStands hv hscript hready hreserved hreset
    obtain ⟨t, hrun, hrest, hstands'⟩ := ih u (hstands.txValidO_eq.trans hv) hnext htail
    exact ⟨t, (runSteps_succ _ s u hstep).trans hrun, hrest, hstands.trans hstands'⟩

/-- Settles O26 by `runSteps_blockStands`. -/
theorem stalledSerializerNeverCompletes : Obligations.StalledSerializerNeverCompletes := by
  intro reqs rest s ha hrem hscript hreqs
  obtain ⟨t, hrun, hrest, hengine, hstream, htc⟩ :=
    runSteps_blockStands reqs rest s ((txValidO_iff s).2 ⟨ha, hrem⟩) hscript hreqs
  exact ⟨t, hrun, hrest, hengine, hstream, htc⟩

end Sys2Proof.Machine

/-! The transmit operations (R210 to R213, R230 to R236): the register reads, the TXDATA write and the kick. -/

namespace Sys2Proof.Machine

/-! ### The words of the transmit reads -/

theorem Config.txCap_le (c : Config) : c.txCap ≤ 2 ^ 16 := by
  obtain ⟨_, htx, _⟩ := Config.widths_le c
  exact Nat.pow_le_pow_right (by decide) htx

/-- No TX cursor or count is cut off in a register word. -/
theorem toNat_zext32_of_lt_txCap {c : Config} {n : Nat} (h : n < c.txCap) : (zext32 n).toNat = n := by
  have hcap := Config.txCap_le c
  rw [zext32, BitVec.toNat_ofNat, Nat.mod_eq_of_lt (by omega)]

theorem txCount_int (s : State) : (txCount s : Int) = ((s.txIns : Int) - s.txExt) % s.cfg.txCap :=
  wrapSub_int _ _ _ (Config.txCap_pos _)

theorem txCount_lt (s : State) : txCount s < s.cfg.txCap := wrapSub_lt _ _ _ (Config.txCap_pos _)

theorem txFree_add_txCount (s : State) : txFree s + txCount s + 1 = s.cfg.txCap := by
  have hlt := txCount_lt s
  rw [txFree, Config.txMask]
  omega

/-- No free space exactly when the ring is full (R236). -/
theorem txFree_eq_zero_iff (s : State) (hw : s.widthsOk) : txFree s = 0 ↔ txFull s = true := by
  have hsum := txFree_add_txCount s
  rw [txFull_iff_boundary, ← ringCount_eq_mask_iff _ _ _ hw.txIns hw.txExt, ← txCount]
  omega

/-- All but one place free exactly when the ring is empty (R236). -/
theorem txFree_eq_mask_iff (s : State) (hw : s.widthsOk) : txFree s = s.cfg.txMask ↔ txEmpty s = true := by
  have hsum := txFree_add_txCount s
  rw [txEmpty_iff, ← ringCount_eq_zero_iff _ _ _ hw.txIns hw.txExt, ← txCount, Config.txMask]
  omega

/-- Nothing remains of a block that is not there, or has been sent (R81, R234). -/
theorem State.transmitOk.txRem_eq_zero {s : State} (h : s.transmitOk) (hphase : s.txActive = false ∨ txDone s = true) :
    s.txRem = 0 := by
  rcases hphase with hidle | hdone
  · exact h.idleRem hidle
  · exact ((txDone_iff s).1 hdone).2

/-- Settles O10: the seven reads are plain edges; cursors and counts are below TX_CAP, so their words hold them
whole. -/
theorem transmitReadsAnswer : Obligations.TransmitReadsAnswer := by
  intro s w
  have hsum := txFree_add_txCount s
  have hcount : (zext32 (txCount s)).toNat = txCount s := toNat_zext32_of_lt_txCap (txCount_lt s)
  have hlt : txFree s < s.cfg.txCap := by omega
  have hfree : (zext32 (txFree s)).toNat = txFree s := toNat_zext32_of_lt_txCap hlt
  refine ⟨decode_readDesc .txinsert w, decode_readDesc .txextract w, decode_readDesc .txptr w,
    decode_readDesc .txlen w, decode_readDesc .txremain w, decode_readDesc .txcount w, decode_readDesc .txfree w,
    answersPlain_of_exec rfl ⟨rfl, fun hw => ?_⟩, answersPlain_of_exec rfl rfl, answersPlain_of_exec rfl rfl,
    answersPlain_of_exec rfl rfl, answersPlain_of_exec rfl ⟨rfl, fun hok hphase => ?_⟩,
    answersPlain_of_exec rfl ?_, answersPlain_of_exec rfl ⟨?_, fun hw => ?_⟩⟩
  · rw [toNat_zext32_of_lt_txCap hw.txIns]
    exact hw.txIns
  · rw [hok.txRem_eq_zero hphase]
    rfl
  · rw [hcount]
    exact txCount_int s
  · rw [hfree, ← txCount_int]
    omega
  · rw [hfree]
    exact ⟨txFree_eq_zero_iff s hw, txFree_eq_mask_iff s hw⟩

/-- Settles O11: both reads are plain edges that answer 0. -/
theorem writeOnlyRegistersReadZero : Obligations.WriteOnlyRegistersReadZero := fun _ w =>
  ⟨decode_readDesc .txdata w, decode_readDesc .txkick w,
    answersPlain_of_exec rfl rfl, answersPlain_of_exec rfl rfl⟩

/-! ### The TXDATA write -/

/-- A TXDATA write has no effect but on the producer (R210). -/
theorem writeTxdata_eq_withProducer (v : Word) (pre post : State) :
    writeTxdata v pre post = { post with
      txmem := (writeTxdata v pre post).txmem
      txIns := (writeTxdata v pre post).txIns
      stTxack := (writeTxdata v pre post).stTxack } := by
  rcases writeTxdata_cases v pre post with ⟨_, h⟩ | ⟨_, h⟩ <;> rw [h] <;> rfl

theorem writeTxdata_of_full (v : Word) (pre post : State) (h : txFull pre = true) :
    writeTxdata v pre post = dropByte post := if_pos h

theorem writeTxdata_of_room (v : Word) (pre post : State) (h : txFull pre = false) :
    writeTxdata v pre post = acceptByte (txdataByte v) pre post := if_neg (by simp [h])

/-- Settles O18: the boundary decides between the two branches of `writeTxdata`, and either writes nothing but the
producer over the edge parts. -/
theorem writeTxdataAcceptsOrDrops : Obligations.WriteTxdataAcceptsOrDrops := by
  intro s v
  refine ⟨decode_writeDesc .txdata v, _, rfl, rfl, fun hboundary => ?_, fun hroom => ?_, ?_⟩
  · rw [writeTxdata_of_full v s _ ((txFull_iff s).2 hboundary)]
    obtain ⟨_, _, _, _, ⟨hins, _, hstorage⟩, _⟩ := edgeParts_plainFrame s
    exact ⟨rfl, hins, hstorage⟩
  · rw [writeTxdata_of_room v s _ (by rw [← Bool.not_eq_true, txFull_iff]; exact hroom)]
    exact ⟨rfl, rfl, Memory.read?_write_same _ _ _, fun a ha => Memory.read?_write_other _ _ _ _ ha⟩
  · obtain ⟨henv, hrx, hconsumer, hctrl, _, hrecord⟩ := edgeParts_plainFrame s
    rw [writeTxdata_eq_withProducer]
    exact ⟨edgeParts_edgeRule s, edgeParts_tcRule s, henv, hrx, hconsumer, hctrl, hrecord⟩

/-! ### The kick -/

/-- A kick has no effect but on the block registers (R212). -/
theorem kick_eq_withBlock (pre post : State) :
    kick pre post = { post with
      txActive := (kick pre post).txActive
      txStart := (kick pre post).txStart
      txLen := (kick pre post).txLen
      txPtr := (kick pre post).txPtr
      txRem := (kick pre post).txRem } := by
  rcases kick_cases pre post with ⟨_, _, h⟩ | ⟨_, h⟩ <;> rw [h]
  rfl

theorem kick_of_pending (pre post : State) (hidle : pre.txActive = false) (hne : pre.txIns ≠ pre.txExt) :
    kick pre post = armBlock pre.txExt pre.txIns post := by simp [kick, hidle, txEmpty, hne]

theorem registerEffect_kick (v : Word) (pre post : State) : RegisterEffect pre post (.wrTxkick v) (kick pre post) := by
  rcases kick_cases pre post with ⟨hidle, hpending, h⟩ | ⟨hno, h⟩ <;> rw [h]
  · exact .arm v hidle hpending
  · exact .noArm v hno

/-- `arm` is R224's: the contiguous run from the extract cursor. -/
theorem armBlock_armedWith (e i : Nat) (post : State) : ArmedWith e i (armBlock e i post) := by
  have hrun : e < i → runLength post.cfg.txCap e i = i - e := fun h => if_pos h
  have hwrap : i ≤ e → runLength post.cfg.txCap e i = post.cfg.txCap - e := fun h => if_neg (by omega)
  exact ⟨rfl, rfl, rfl, fun h => ⟨hrun h, hrun h⟩, fun h => ⟨hwrap h, hwrap h⟩⟩

/-- Settles O19: the block is `armBlock_armedWith`; an armed engine keeps to its rules by `RegisterEffect.armedRules`,
and nothing but the block registers is written over the edge parts. -/
theorem writeTxkickArmsOnlyWhenIdle : Obligations.WriteTxkickArmsOnlyWhenIdle := by
  intro s v
  have heffect := registerEffect_kick v s (edgeParts s)
  obtain ⟨hhandshake, hstall, hcompletion⟩ := heffect.armedRules
  obtain ⟨hsync, _, _, _, hidleEdge⟩ := edgeParts_edgeRule s
  refine ⟨decode_writeDesc .txkick v, _, rfl, rfl, fun hidle hne => ?_, fun hidle hempty => ?_, fun hidle => ?_, ?_⟩
  · rw [kick_of_pending s _ hidle hne]
    exact armBlock_armedWith _ _ _
  · obtain ⟨hkept, _, _⟩ := heffect.idleRule hempty hidle
    exact hkept
  · obtain ⟨⟨_, _, _, _, _, hext⟩, hstream, hpulse⟩ := hidleEdge hidle
    rw [kick_eq_withBlock]
    exact ⟨hext, hstream, hpulse⟩
  · refine ⟨?_, hhandshake, hstall, hcompletion, ?_⟩
    · rw [kick_eq_withBlock]
      exact hsync
    · rw [kick_eq_withBlock]
      exact ⟨edgeParts_tcRule s, edgeParts_plainFrame s⟩

end Sys2Proof.Machine

/-! The unread bytes of the TX ring, and the bytes a run of TXDATA writes puts behind them (R210, R226, R227). -/

namespace Sys2Proof.Machine

/-! ### The unread range -/

/-- The insert cursor stands after the unread bytes, at none of their slots. -/
theorem State.TransmitInv.unread_slot_ne {s : State} (h : s.TransmitInv) {k : Nat} (hk : k < txCount s) :
    (s.txExt + k) % s.cfg.txCap ≠ s.txIns := by
  have hslot := ring_slot_ne s.cfg.txCap s.txExt (txCount s) k hk (txCount_lt s)
  rwa [show (s.txExt + txCount s) % s.cfg.txCap = s.txIns from add_ringCount_mod _ _ _ h.ins h.ext] at hslot

/-- No operation but a reset writes TX storage anywhere but at the insert cursor (R45, R210). -/
theorem exec_txmem_other {i : Instr} {s t : State} (hreset : i ≠ .evReset) (h : exec i s = .next t) (a : Nat)
    (ha : a ≠ s.txIns) : Memory.read? t.txmem a = Memory.read? s.txmem a := by
  cases hclk : isClkEdge i with
  | true =>
    obtain ⟨u, answer, heffect, rfl⟩ := exec_clkEdge_next i s t hclk h
    rcases heffect.txRing_writer with ⟨_, hkept⟩ | ⟨⟨v, rfl⟩, hroom⟩
    · exact congrArg (Memory.read? · a) hkept
    · obtain ⟨_, hmem⟩ := exec_wrTxdata_next h
      rw [hmem, hroom]
      exact Memory.read?_write_other _ _ _ _ ha
  | false =>
    obtain ⟨v, b, rfl⟩ := (eq_evRx_or_evReset i hclk).resolve_right hreset
    obtain rfl := Host.Outcome.next.inj h
    obtain ⟨_, _, ⟨_, _, hstorage⟩, _⟩ := rxEdge_clkDomainKept v b s
    exact hstorage a

/-- Settles O45: the one slot written is the insert cursor's, which is none of the unread ones. -/
theorem unsentBytesAreNeverOverwritten : Obligations.UnsentBytesAreNeverOverwritten := by
  intro i s t hinv hreset h k hk
  exact exec_txmem_other hreset h _ (hinv.transmitInv.unread_slot_ne hk)

/-! ### A run of writes -/

/-- From `s` to `t` the ring's storage has taken the bytes, from the insert cursor on, and no other slot has changed. -/
structure BytesStored (bytes : List Byte) (s t : State) : Prop where
  cfg : t.cfg = s.cfg
  ins : t.txIns = (s.txIns + bytes.length) % s.cfg.txCap
  stored : ∀ k b, bytes[k]? = some b → Memory.read? t.txmem ((s.txIns + k) % s.cfg.txCap) = some b
  others : ∀ a, (∀ k < bytes.length, (s.txIns + k) % s.cfg.txCap ≠ a) →
    Memory.read? t.txmem a = Memory.read? s.txmem a

theorem BytesStored.nil {s : State} (hins : s.txIns < s.cfg.txCap) : BytesStored [] s s where
  cfg := rfl
  ins := (Nat.mod_eq_of_lt hins).symm
  stored := by simp
  others := fun _ _ => rfl

/-- Fewer bytes than the capacity stand in slots of their own, so the later ones leave the first in place. -/
theorem BytesStored.cons {b : Byte} {bytes : List Byte} {s t u : State} (hlen : (b :: bytes).length < s.cfg.txCap)
    (h : BytesStored [b] s t) (h' : BytesStored bytes t u) :
    BytesStored (b :: bytes) s u := by
  have hslot (k : Nat) : (t.txIns + k) % t.cfg.txCap = (s.txIns + (k + 1)) % s.cfg.txCap := by
    rw [h.cfg, h.ins, Nat.mod_add_mod, List.length_singleton, Nat.add_assoc, Nat.add_comm 1]
  rw [List.length_cons] at hlen
  refine ⟨h'.cfg.trans h.cfg, h'.ins.trans (hslot _), fun k c hk => ?_, fun a ha => ?_⟩
  · cases k with
    | zero =>
      rw [← h.stored 0 c hk]
      refine h'.others _ fun k hk => ?_
      rw [hslot]
      exact (ring_slot_ne s.cfg.txCap s.txIns (k + 1) 0 (by omega) (by omega)).symm
    | succ k =>
      rw [← hslot]
      exact h'.stored k c hk
  · rw [h'.others a fun k hk => ?_, h.others a fun k hk => ?_]
    · exact ha k (hk.trans_le (by simp))
    · rw [hslot]
      exact ha (k + 1) (by simpa using hk)

/-- An accepted TXDATA write stores its byte at the insert cursor (R210). -/
theorem exec_wrTxdata_bytesStored {v : Word} {s t : State} (hins : s.txIns < s.cfg.txCap) (hroom : txFull s = false)
    (h : exec (.wrTxdata v) s = .next t) : BytesStored [txdataByte v] s t := by
  obtain rfl := Host.Outcome.next.inj h
  have hslot : (s.txIns + 0) % s.cfg.txCap = s.txIns := Nat.mod_eq_of_lt hins
  rw [writeTxdata_of_room v s _ hroom]
  refine ⟨edgeParts_cfg s, rfl, fun k b hk => ?_, fun a ha => ?_⟩
  · obtain ⟨rfl, rfl⟩ : k = 0 ∧ txdataByte v = b := by simpa [List.getElem?_singleton] using hk
    rw [hslot]
    exact Memory.read?_write_same _ _ _
  · refine Memory.read?_write_other _ _ _ _ ?_
    rw [← hslot]
    exact (ha 0 (by simp)).symm

/-- One TXDATA write into a ring with free space, with `tx_ready_i` any value. -/
theorem step_txdata {r : Request} {v : Word} {s : State} {rest : List Request} (hinv : s.Inv) (hfree : 0 < txFree s)
    (hscript : s.script = r :: rest) (hdecode : decode r.desc r.wdata = .instr (.wrTxdata v)) :
    ∃ t, step s = .next t ∧ t.script = rest ∧ t.stTxack = true ∧ t.Inv ∧ txFree s ≤ txFree t + 1 ∧
      BytesStored [txdataByte v] s t := by
  have hinv' := inv_takeRequest r rest s hinv
  have hroom : txFull (takeRequest r rest s) = false := hinv'.transmitInv.txFull_eq_false hfree
  have haccepted : txAccepted (.wrTxdata v) (takeRequest r rest s) = [txdataByte v] := by simp [txAccepted, hroom]
  obtain ⟨u, answer, heffect, hexec⟩ := exec_clkEdge (.wrTxdata v) (takeRequest r rest s) rfl
  have hgrow := queueGrowth_exec rfl hinv' hexec
  rw [haccepted] at hgrow
  obtain ⟨hack, _⟩ := exec_wrTxdata_next hexec
  obtain ⟨hcfg, hins, hstored, hothers⟩ := exec_wrTxdata_bytesStored hinv'.transmitInv.ins hroom hexec
  refine ⟨_, (step_of_instr s r rest _ hscript hdecode).trans hexec, heffect.script_eq, ?_, hgrow.inv, hgrow.free,
    hcfg, hins, hstored, hothers⟩
  rw [hack, hroom, Bool.not_false]

/-- As many TXDATA writes as there is free space store all their bytes. -/
theorem runSteps_txdata_bytesStored (ws : List (Word × Bool)) (rest : List Request) (s : State) (hinv : s.Inv)
    (hfit : ws.length ≤ txFree s) (hscript : s.script = ws.map (fun p => ⟨0x601C#16, p.1, p.2⟩) ++ rest) :
    ∃ t, runSteps ws.length s = .next t ∧ t.script = rest ∧ (s.stTxack = true ∨ ws ≠ [] → t.stTxack = true) ∧
      BytesStored (ws.map fun p => txdataByte p.1) s t := by
  induction ws generalizing s with
  | nil => exact ⟨s, rfl, hscript, fun hack => by simpa using hack, .nil hinv.transmitInv.ins⟩
  | cons p ws ih =>
    rw [List.length_cons] at hfit
    obtain ⟨u, hstep, hnext, hack, hinv', hfree, hfirst⟩ :=
      step_txdata hinv (by omega) hscript (decode_writeDesc .txdata p.1)
    obtain ⟨t, hrun, hrest, hack', hlater⟩ := ih u hinv' (by omega) hnext
    have hsum := txFree_add_txCount s
    refine ⟨t, (runSteps_succ _ s u hstep).trans hrun, hrest, fun _ => hack' (.inl hack),
      .cons ?_ hfirst hlater⟩
    rw [List.length_cons, List.length_map]
    omega

/-- Settles O32: `runSteps_txdata_bytesStored`, read write by write. -/
theorem writeRunWithinFreeSpaceIsAccepted : Obligations.WriteRunWithinFreeSpaceIsAccepted := by
  intro ws rest s hinv hfit hscript
  obtain ⟨t, hrun, hrest, hack, _, hins, hstored, _⟩ := runSteps_txdata_bytesStored ws rest s hinv hfit hscript
  rw [List.length_map] at hins
  refine ⟨t, hrun, hrest, hins, fun hne => hack (.inr hne), fun k p hk => hstored k _ ?_⟩
  rw [List.getElem?_map, hk]
  rfl

end Sys2Proof.Machine

/-! The bus transactions in error: which cause each has (R131, R262), what their edge does (R260), and that no other step
touches the record of them (D35). -/

namespace Sys2Proof

/-! ### The cause of an error -/

theorem Desc.size_toNat (d : Desc) : (Desc.size d).toNat = d.toNat / 0x1000 % 4 := Desc.evt_toNat d

theorem Desc.offset_toNat (d : Desc) : (Desc.offset d).toNat = d.toNat % 0x1000 := Desc.arg_toNat d

/-- CLASS read or write is the lower half of the descriptors (R120, R131). -/
theorem Desc.isBus_iff (d : Desc) : Desc.cls d = 0b00#2 ∨ Desc.cls d = 0b01#2 ↔ d.toNat < 0x8000 := by
  simp only [← BitVec.toNat_inj, Desc.cls_toNat, BitVec.toNat_ofNat]
  omega

/-- The registers stand at the multiples of 4 below 0x044, without a gap (R125). -/
theorem Reg.ofOffset?_eq_none_iff (off : BitVec 12) (halign : off.toNat % 4 = 0) :
    Reg.ofOffset? off = none ↔ 0x044 ≤ off.toNat := by
  refine ⟨fun hnone => ?_, Reg.ofOffset?_eq_none off⟩
  by_contra hlt
  have hgapless : ∀ k < 17, Reg.ofOffset? (BitVec.ofNat 12 (4 * k)) ≠ none := by decide
  have hoff : BitVec.ofNat 12 (4 * (off.toNat / 4)) = off := by
    rw [Nat.mul_div_cancel' (Nat.dvd_of_mod_eq_zero halign), BitVec.ofNat_toNat, BitVec.setWidth_eq]
  exact hgapless (off.toNat / 4) (by omega) (hoff.symm ▸ hnone)

/-- The first cause in the order of R262: each one's condition shuts out those before it. -/
theorem checkTransaction_eq_error_iff (size : BitVec 2) (off : BitVec 12) (c : BusErrorCause) :
    checkTransaction size off = .error c ↔
      (c = .sizeReserved ∧ size.toNat = 3) ∨
      (c = .sizeNarrow ∧ size.toNat < 2) ∨
      (c = .misaligned ∧ size.toNat = 2 ∧ off.toNat % 4 ≠ 0) ∨
      (c = .unmapped ∧ size.toNat = 2 ∧ off.toNat % 4 = 0 ∧ 0x044 ≤ off.toNat) := by
  rcases field2_cases size with rfl | rfl | rfl | rfl
  · simp [checkTransaction, eq_comm (a := c)]
  · simp [checkTransaction, eq_comm (a := c)]
  · by_cases halign : off.toNat % 4 = 0
    · have hnone := Reg.ofOffset?_eq_none_iff off halign
      cases hreg : Reg.ofOffset? off with
      | none => simp [checkTransaction, aligned_iff, halign, hreg, hnone.1 hreg, eq_comm (a := c)]
      | some r =>
        have hmapped : off.toNat < 0x044 := by simpa [hreg] using hnone
        simp [checkTransaction, aligned_iff, halign, hreg, hmapped]
    · simp [checkTransaction, aligned_iff, halign, eq_comm (a := c)]
  · simp [checkTransaction, eq_comm (a := c)]

theorem decodeBus_eq_busError_iff (d : Desc) (access : Reg → Instr) (c : BusErrorCause) :
    decodeBus d access = .busError c ↔ checkTransaction (Desc.size d) (Desc.offset d) = .error c := by
  unfold decodeBus
  split <;> simp [*]

theorem decodeEvent_ne_busError (d : Desc) (c : BusErrorCause) : decodeEvent d ≠ .busError c := by
  unfold decodeEvent
  split_ifs <;> simp

/-- The transactions in error are the bus transactions that fail their check (R131). -/
theorem decode_eq_busError_iff (d : Desc) (w : Word) (c : BusErrorCause) :
    decode d w = .busError c ↔
      d.toNat < 0x8000 ∧ checkTransaction (Desc.size d) (Desc.offset d) = .error c := by
  rw [← Desc.isBus_iff]
  rcases field2_cases (Desc.cls d) with hcls | hcls | hcls | hcls
  · simp [decode, hcls, decodeBus_eq_busError_iff]
  · simp [decode, hcls, decodeBus_eq_busError_iff]
  · simp [decode, hcls, decodeEvent_ne_busError]
  · simp [decode, hcls]

/-- A bus transaction that is no aligned word access below 0x044 is in error. -/
theorem decode_busError_of_illegal (d : Desc) (w : Word) (hbus : d.toNat < 0x8000)
    (h : Desc.size d ≠ 0b10#2 ∨ (Desc.offset d).toNat % 4 ≠ 0 ∨ 0x044 ≤ (Desc.offset d).toNat) :
    ∃ c, decode d w = .busError c := by
  simp only [decode_eq_busError_iff, hbus, true_and, checkTransaction_eq_error_iff]
  rcases field2_cases (Desc.size d) with hsize | hsize | hsize | hsize
  · exact ⟨.sizeNarrow, by simp [hsize]⟩
  · exact ⟨.sizeNarrow, by simp [hsize]⟩
  · by_cases halign : (Desc.offset d).toNat % 4 = 0
    · exact ⟨.unmapped, by simpa [hsize, halign] using h⟩
    · exact ⟨.misaligned, by simp [hsize, halign]⟩
  · exact ⟨.sizeReserved, by simp [hsize]⟩

end Sys2Proof

namespace Sys2Proof.Machine

/-! ### The edge of an error -/

section BusErrorEdge
variable (c : BusErrorCause) (d : Desc) (s : State)

theorem busErrorEdge_resp : (busErrorEdge c d s).resp = some ⟨0#32, true⟩ := rfl

theorem busErrorEdge_busErrors : (busErrorEdge c d s).busErrors = s.busErrors ++ [⟨c, d⟩] := by
  simp [busErrorEdge]

/-- The response and the record are no part of the edge: synchronizer and engine go on (R99, R260). -/
theorem busErrorEdge_edgeRule : EdgeRule s (busErrorEdge c d s) := edgeParts_edgeRule s

theorem busErrorEdge_tcRule : TcRule s (busErrorEdge c d s) := edgeParts_tcRule s

/-- With the record put back, an error has no side effect (R260). -/
theorem busErrorEdge_plainFrame : PlainFrame s { busErrorEdge c d s with busErrors := s.busErrors } := by
  simp [busErrorEdge, PlainFrame, EnvKept, InputsKept, RxDomainKept, ConsumerKept, CtrlKept, ProducerKept,
    TxStorageKept, RecordKept]

end BusErrorEdge

/-- Settles O3: the first cause is `checkTransaction_eq_error_iff`'s, the fields written as numbers. -/
theorem busErrorCausesAndTheirPriority : Obligations.BusErrorCausesAndTheirPriority := by
  refine ⟨fun d w c => ?_, fun s r rest c hscript hd => ?_⟩
  · rw [decode_eq_busError_iff, checkTransaction_eq_error_iff, Desc.size_toNat, Desc.offset_toNat,
      Nat.mod_mod_of_dvd _ (by decide : 4 ∣ 0x1000)]
  · exact ⟨_, step_of_busError hscript hd, rfl, busErrorEdge_plainFrame c r.desc (takeRequest r rest s)⟩

theorem busErrorCode_bounds (c : BusErrorCause) : 1 ≤ busErrorCode c ∧ busErrorCode c ≤ 4 := by cases c <;> decide

/-- Each code of R260 is that of one cause, and says of the descriptor what the cause does. -/
theorem size_offset_of_busErrorCode (d : Desc) (w : Word) (c : BusErrorCause) (h : decode d w = .busError c) :
    (busErrorCode c = 1 → Desc.size d = 0b11#2) ∧
    (busErrorCode c = 2 → Desc.size d = 0b00#2 ∨ Desc.size d = 0b01#2) ∧
    (busErrorCode c = 3 → Desc.size d = 0b10#2 ∧ (Desc.offset d).toNat % 4 ≠ 0) ∧
    (busErrorCode c = 4 →
      Desc.size d = 0b10#2 ∧ (Desc.offset d).toNat % 4 = 0 ∧ 0x044 ≤ (Desc.offset d).toNat) := by
  have hcause := (checkTransaction_eq_error_iff _ _ c).1 ((decode_eq_busError_iff d w c).1 h).2
  simp only [← BitVec.toNat_inj, BitVec.toNat_ofNat]
  rcases hcause with ⟨rfl, hsize⟩ | ⟨rfl, hsize⟩ | ⟨rfl, hsize, hoff⟩ | ⟨rfl, hsize, hoff⟩
  · simp [busErrorCode, hsize]
  · simp only [busErrorCode]
    omega
  · simp [busErrorCode, hsize, hoff]
  · simp [busErrorCode, hsize, hoff]

/-- Settles O6: the frame of an error's edge, clause by clause; taking the request writes none of the elements told. -/
theorem busErrorStepOnlyAnswersAndRecords : Obligations.BusErrorStepOnlyAnswersAndRecords := by
  refine ⟨fun s r rest c hscript hd => ?_, size_offset_of_busErrorCode, fun d w hbus hillegal => ?_⟩
  · obtain ⟨henv, hrx, hconsumer, hctrl, hproducer, _⟩ := busErrorEdge_plainFrame c r.desc (takeRequest r rest s)
    exact ⟨_, step_of_busError hscript hd, busErrorEdge_resp _ _ _, busErrorEdge_busErrors _ _ _,
      busErrorEdge_edgeRule _ _ _, busErrorEdge_tcRule c r.desc (takeRequest r rest s), henv, hrx, hconsumer, hctrl,
      hproducer⟩
  · obtain ⟨c, hc⟩ := decode_busError_of_illegal d w hbus hillegal
    exact ⟨c, hc, busErrorCode_bounds c⟩

/-! ### The operations leave the record alone -/

/-- No register part writes the record. -/
theorem RegisterEffect.busErrors_eq {s u : State} {i : Instr} (h : RegisterEffect s (edgeParts s) i u) :
    u.busErrors = s.busErrors := by
  cases h <;> exact edgeParts_busErrors s

/-- No operation writes the record, reset included (D35). -/
theorem exec_busErrors {i : Instr} {s t : State} (h : exec i s = .next t) : t.busErrors = s.busErrors := by
  cases hclk : isClkEdge i with
  | true =>
    obtain ⟨u, _, heffect, rfl⟩ := exec_clkEdge_next i s t hclk h
    exact heffect.busErrors_eq
  | false =>
    rcases eq_evRx_or_evReset i hclk with ⟨v, b, rfl⟩ | rfl
    · obtain rfl := Host.Outcome.next.inj h
      obtain ⟨_, _, _, _, hrecord, _⟩ := rxEdge_clkDomainKept v b s
      exact hrecord
    · obtain rfl := Host.Outcome.next.inj h
      rfl

/-- An `rx_clk` edge carries no transaction (R98). -/
theorem rxEdge_resp (v : Bool) (b : Byte) (s : State) : (rxEdge v b s).resp = none := by
  rcases rxEdge_cases v b s with ⟨_, _, e⟩ | ⟨_, e⟩ <;> simp [e]

/-- No operation of the table answers `err = 1` (R131, R260). -/
theorem exec_resp_ne_err {i : Instr} {s t : State} (h : exec i s = .next t) (v : Word) : t.resp ≠ some ⟨v, true⟩ := by
  rcases exec_cases i s with ⟨_, _, e⟩ | ⟨_, e⟩ | ⟨_, _, e⟩ | ⟨_, _, e⟩ | ⟨_, _, e⟩ | ⟨_, _, e⟩ | ⟨_, e⟩ |
    ⟨_, _, _, e⟩ | ⟨_, e⟩ <;>
    · obtain rfl := Host.Outcome.next.inj (e.symm.trans h)
      simp [rxEdge_resp]

/-- Settles O29: a step is an operation, which neither answers `err` nor writes the record, or the edge of an error, which
does both. -/
theorem errorRecordIsSticky : Obligations.ErrorRecordIsSticky := by
  intro s t h
  rcases step_cases s with ⟨_, hr⟩ | ⟨r, rest, hscript, ⟨i, _, hi⟩ | ⟨c, _, hb⟩ | ⟨why, _, hr⟩⟩
  · simp [hr] at h
  · have hexec := hi.symm.trans h
    exact ⟨fun ⟨v, herr⟩ => absurd herr (exec_resp_ne_err hexec v),
      fun _ => (exec_busErrors hexec).trans (takeRequest_busErrors ..)⟩
  · obtain rfl := Host.Outcome.next.inj (hb.symm.trans h)
    exact ⟨fun _ => ⟨c, r, rest, hscript, busErrorEdge_busErrors _ _ _⟩, fun hok => absurd rfl (hok 0#32)⟩
  · simp [hr] at h

end Sys2Proof.Machine

/-! A step as the operation its next request decodes to (R124, R312, entry 3). -/

namespace Sys2Proof.Machine

/-- A table word that decodes, decodes as the request that stands for it. -/
theorem decode_of_decodeTableWord {nbits w : Nat} {i : Instr} (h : decodeTableWord nbits w = some i) :
    decode (tableDesc nbits w) (tableWdata nbits w) = .instr i := by
  rw [decodeTableWord] at h
  split at h
  · next j hj => rw [hj, Option.some.inj h]
  · cases h
  · cases h

/-- Taking the request that stands for a table word gives back the state it was put into. -/
theorem takeRequest_tableRequest (s : State) (nbits w : Nat) :
    takeRequest (tableRequest s nbits w) s.script (s.withFetchWord nbits w) = s := rfl

/-- Settles O5: both clauses are `step_of_instr`. -/
theorem stepRunsTheDecodedOperation : Obligations.StepRunsTheDecodedOperation := by
  refine ⟨fun s r rest i hscript hdecode _ => step_of_instr s r rest i hscript hdecode, fun s nbits w i h => ?_⟩
  rw [step_of_instr _ (tableRequest s nbits w) s.script i rfl (decode_of_decodeTableWord h), takeRequest_tableRequest]

end Sys2Proof.Machine

/-! The reset event (R290), and what every register reads right after reset (R291). -/

namespace Sys2Proof.Machine

/-! ### The reset event -/

/-- Every byte of RX storage is a free value of the new reset (U1, entry 5). -/
theorem rxByte_resetEvent (s : State) (a : Nat) : rxByte (resetEvent s) a = Config.unwrittenRx (s.resets + 1) a := rfl

/-- Every byte of TX storage is a free value of the new reset (U1, entry 5). -/
theorem txByte_resetEvent (s : State) (a : Nat) : txByte (resetEvent s) a = Config.unwrittenTx (s.resets + 1) a := rfl

/-- Settles O20: the elements are those of `resetEvent`, and no byte of an empty storage is known. -/
theorem resetEventResetsEveryElement : Obligations.ResetEventResetsEveryElement := by
  intro s w
  refine ⟨decode_encode .evReset w, resetEvent s, rfl, ?_⟩
  simp [rxByte_resetEvent, txByte_resetEvent, InputsKept, RecordKept]

/-! ### The reset state of a configuration -/

/-- Each capacity has at least two places (`00_scope.md` section 4). -/
theorem Config.masks_pos (c : Config) : 0 < c.rxMask ∧ 0 < c.txMask := by
  have h := c.legal
  simp only [paramsLegal, Bool.and_eq_true, decide_eq_true_eq] at h
  have hrx : 1 < c.rxCap := Nat.one_lt_two_pow (by omega)
  have htx : 1 < c.txCap := Nat.one_lt_two_pow (by omega)
  exact ⟨Nat.sub_pos_of_lt hrx, Nat.sub_pos_of_lt htx⟩

/-- The last stage of a chain that holds one value throughout. -/
theorem lastStage_replicate {α : Type} (x d : α) (n : Nat) (hn : 0 < n) : lastStage n (List.replicate n x) d = x := by
  simp [lastStage, hn]

section ResetFor
variable (c : Config)

theorem rxSettled_resetFor : (State.resetFor c).rxSettled := fun _ hg => List.eq_of_mem_replicate hg

theorem rxWsync_resetFor : rxWsync (State.resetFor c) = 0 :=
  ((receiveInv_resetFor c).rxWsync_of_rxSettled (rxSettled_resetFor c)).trans (Nat.zero_mod _)

theorem rxEmpty_resetFor : rxEmpty (State.resetFor c) = true := (rxEmpty_iff _).2 (rxWsync_resetFor c)

theorem rxCount_resetFor : rxCount (State.resetFor c) = 0 :=
  (ringCount_eq_zero_iff _ _ _ (rxWsync_lt _) (Config.rxCap_pos c)).2 (rxWsync_resetFor c)

theorem rxFull_resetFor : rxFull (State.resetFor c) = false := by
  rw [rxFull, rxCount_resetFor, beq_eq_false_iff_ne]
  exact (Config.masks_pos c).1.ne

theorem txEmpty_resetFor : txEmpty (State.resetFor c) = true := rfl

theorem txCount_resetFor : txCount (State.resetFor c) = 0 :=
  (ringCount_eq_zero_iff _ _ _ (Config.txCap_pos c) (Config.txCap_pos c)).2 rfl

theorem txFree_resetFor : txFree (State.resetFor c) = c.txMask :=
  (transmitInv_resetFor c).txFree_of_txEmpty (txEmpty_resetFor c)

theorem txFull_resetFor : txFull (State.resetFor c) = false :=
  (transmitInv_resetFor c).txFull_eq_false (by rw [txFree_resetFor]; exact (Config.masks_pos c).2)

theorem rxEnabled_resetFor : rxEnabled (State.resetFor c) = false :=
  lastStage_replicate _ _ _ (Config.syncStages_pos c)

theorem ctrlWord_resetFor : ctrlWord (State.resetFor c) = 0#32 := by
  have hrxen : (State.resetFor c).ctrlRxen = false := rfl
  have htcie : (State.resetFor c).ctrlTcie = false := rfl
  rw [ctrlWord, hrxen, htcie]
  rfl

/-- Of the flags of STATUS only TXE stands after reset (R291). -/
theorem statusWord_resetFor : statusWord (State.resetFor c) = 0x00000004#32 := by
  have hack : (State.resetFor c).stTxack = false := rfl
  have htc : (State.resetFor c).stTc = false := rfl
  have hbusy : txBusy (State.resetFor c) = false := rfl
  rw [statusWord, hack, htc, hbusy, txFull_resetFor, txEmpty_resetFor, rxFull_resetFor, rxNe, rxEmpty_resetFor]
  rfl

theorem rxdataWord_resetFor : rxdataWord (State.resetFor c) = noDataSentinel :=
  (rxdataWord_eq_sentinel_iff _).2 (rxEmpty_resetFor c)

end ResetFor

/-! ### The reads right after reset -/

theorem readsAs_of_exec {i : Instr} {s post : State} {v w : Word} (h : exec i s = .next (respond v false post))
    (hv : v = w) : ReadsAs i s w := ⟨_, h, by rw [respond_resp, hv]⟩

theorem paramWord_eq_ofNat (c : Config) :
    paramWord c = BitVec.ofNat 32 (c.rxAw + 2 ^ 8 * c.txAw + 2 ^ 16 * c.syncStages + 2 ^ 24) := by
  rw [← toNat_paramWord, BitVec.ofNat_toNat, BitVec.setWidth_eq]

/-- Settles O21: each read answers the word of its register, and the words and flags of the reset state are those of two
empty rings under an idle engine. -/
theorem readsRightAfterReset : Obligations.ReadsRightAfterReset := by
  intro c
  exact ⟨readsAs_of_exec rfl (ctrlWord_resetFor c), readsAs_of_exec rfl (statusWord_resetFor c),
    readsAs_of_exec rfl (rxdataWord_resetFor c), readsAs_of_exec rfl (congrArg zext32 (rxWsync_resetFor c)),
    readsAs_of_exec rfl rfl, readsAs_of_exec rfl (congrArg zext32 (rxCount_resetFor c)),
    readsAs_of_exec rfl (congrArg zext32 (rxRemainImage_of_zero _ (rxWsync_resetFor c))),
    readsAs_of_exec rfl rfl, readsAs_of_exec rfl rfl, readsAs_of_exec rfl rfl, readsAs_of_exec rfl rfl,
    readsAs_of_exec rfl rfl, readsAs_of_exec rfl (congrArg zext32 (txCount_resetFor c)),
    readsAs_of_exec rfl (congrArg zext32 (txFree_resetFor c)), readsAs_of_exec rfl (paramWord_eq_ofNat c),
    rfl, rfl, rfl, rfl, rxEnabled_resetFor c⟩

end Sys2Proof.Machine

/-! The hazards of the rings: what a kick leaves behind (R303), what moves the free space (R304), and which bytes of
storage are read (R290). -/

namespace Sys2Proof.Machine

/-! ### The kick -/

/-- Settles O30: a kick arms what is pending, and an engine it finds armed goes idle on an empty ring only. -/
theorem kickLeavesNoByteBehind : Obligations.KickLeavesNoByteBehind := by
  intro s v
  obtain ⟨t, hexec⟩ := exec_next (.wrTxkick v) s
  obtain ⟨harmed, _, _⟩ := exec_wrTxkick_next hexec
  exact ⟨t, hexec, harmed⟩

/-! ### The free space -/

/-- The free space is told by the two cursors. -/
theorem txFree_of_cursors {s t : State} (hcfg : t.cfg = s.cfg) (hins : t.txIns = s.txIns) (hext : t.txExt = s.txExt) :
    txFree t = txFree s := by rw [txFree, txFree, txCount, txCount, hcfg, hins, hext]

/-- An accepted byte takes one slot of the free space (R210, R227). -/
theorem txFree_of_insert {s t : State} (hw : s.widthsOk) (hroom : txFull s = false) (hcfg : t.cfg = s.cfg)
    (hins : t.txIns = (s.txIns + 1) % s.cfg.txCap) (hext : t.txExt = s.txExt) : txFree t + 1 = txFree s := by
  have hsum := txFree_add_txCount s
  have hsum' := txFree_add_txCount t
  have hfree : txFree s ≠ 0 := fun hzero => by simp [(txFree_eq_zero_iff s hw).1 hzero] at hroom
  have hcount : txCount t = txCount s + 1 := by
    have hlt : txCount s + 1 < s.cfg.txCap := by omega
    rw [txCount, hcfg, hins, hext]
    exact ringCount_insert _ _ _ hw.txIns hw.txExt hlt
  rw [hcfg] at hsum'
  omega

/-- Outside a completion step a `clk` edge moves the free space by the accepted byte alone. -/
theorem RegisterEffect.txFree_add_accepted {s u : State} {i : Instr} (h : RegisterEffect s (edgeParts s) i u)
    (hw : s.widthsOk) (hd : txDone s = false) : txFree u + (txAccepted i s).length = txFree s := by
  have hcfg := edgeParts_cfg s
  have hext := edgeParts_txExt s hd
  have hkept := txFree_of_cursors hcfg (edgeParts_txIns s) hext
  cases h with
  | accept v hroom =>
    have hone : (txAccepted (.wrTxdata v) s).length = 1 := by simp [txAccepted, hroom]
    rw [hone]
    exact txFree_of_insert hw hroom hcfg rfl hext
  | drop v hfull =>
    have hnone : txAccepted (.wrTxdata v) s = [] := by simp [txAccepted, hfull]
    rw [hnone]
    exact hkept
  | plain _ hplain => rw [txAccepted_of_plain i s hplain]; exact hkept
  | emptyPop | pop | overrunPop | control | clear | keepTc | arm | noArm => exact hkept

/-- Where no completion step runs, an operation moves the free space by the accepted byte alone. -/
theorem txFree_exec {i : Instr} {s t : State} (hw : s.widthsOk) (hreset : i ≠ .evReset) (h : exec i s = .next t)
    (hno : isClkEdge i = true → txDone s = false) : txFree t + (txAccepted i s).length = txFree s := by
  cases hclk : isClkEdge i with
  | true =>
    obtain ⟨u, answer, heffect, rfl⟩ := exec_clkEdge_next i s t hclk h
    exact heffect.txFree_add_accepted hw (hno hclk)
  | false =>
    obtain ⟨v, b, rfl⟩ := (eq_evRx_or_evReset i hclk).resolve_right hreset
    obtain rfl := Host.Outcome.next.inj h
    obtain ⟨_, _, ⟨hins, _, _⟩, ⟨_, _, _, _, _, hext⟩, _⟩ := rxEdge_clkDomainKept v b s
    exact txFree_of_cursors (rxEdge_cfg v b s) hins hext

/-- Nothing but a TXDATA write into a ring with room puts a byte into it (R210). -/
theorem txAccepted_eq_nil {i : Instr} {s : State} (h : (∀ v, i ≠ .wrTxdata v) ∨ txFull s = true) :
    txAccepted i s = [] := by
  cases i with
  | wrTxdata v =>
    have hfull : txFull s = true := h.resolve_left fun hne => hne v rfl
    simp [txAccepted, hfull]
  | _ => rfl

/-- Settles O31: all three clauses are `txFree_exec`, whose accepted byte is one for a TXDATA write of a ring with room
and none else. -/
theorem freeSpaceGrowsOnlyAtCompletion : Obligations.FreeSpaceGrowsOnlyAtCompletion := by
  intro i s t hw _ hreset h
  have hfree := txFree_exec hw hreset h
  refine ⟨fun hrise => ?_, fun hd ⟨v, hv⟩ hroom => ?_, fun hd hnone => ?_⟩
  · by_contra hno
    have := hfree fun hclk => Bool.eq_false_of_not_eq_true fun hd => hno ⟨hclk, hd⟩
    omega
  · have hone : (txAccepted i s).length = 1 := by simp [hv, txAccepted, hroom]
    rw [← hone]
    exact hfree fun _ => hd
  · have := hfree fun _ => hd
    rwa [txAccepted_eq_nil hnone] at this

/-! ### The bytes read -/

/-- The byte offered is an unread one of the ring, and the transfer pointer to it needs no wrap (R48, R57). -/
theorem State.TransmitInv.txmem_txPtr {s : State} (h : s.TransmitInv) (hv : txValidO s = true) :
    s.txPtr < s.cfg.txCap ∧ (Memory.read? s.txmem s.txPtr).isSome = true := by
  obtain ⟨hactive, hrem⟩ := (txValidO_iff s).1 hv
  obtain ⟨_, _, hinside, hremaining, hpointer, hunread⟩ := h.block hactive
  have hptr : s.txPtr < s.cfg.txCap := by omega
  have hwritten := h.written (s.txPtr - s.txExt) (by omega)
  rw [Nat.add_sub_cancel' (by omega), Nat.mod_eq_of_lt hptr] at hwritten
  exact ⟨hptr, hwritten⟩

/-- A ring that does not look empty has captured past the count of reads, so its cursor stands at a captured slot
(R191). -/
theorem State.ReceiveInv.rxmem_rxRptr {s : State} (h : s.ReceiveInv) (he : rxEmpty s = false) :
    (Memory.read? s.rxmem s.rxRptr).isSome = true := by
  rw [h.cursor]
  exact h.written _ ((Nat.mod_le _ _).trans_lt (h.rTotal_lt he)) (Nat.mod_lt _ (Config.rxCap_pos _))

/-- Settles O44. The slot of the RX cursor is a written one even under an overrun, where the pop does not read it. -/
theorem onlyWrittenBytesAreRead : Obligations.OnlyWrittenBytesAreRead := fun _ hinv =>
  ⟨hinv.transmitInv.txmem_txPtr, fun he _ => hinv.receiveInv.rxmem_rxRptr he⟩

end Sys2Proof.Machine

/-! The `rx_clk` edges that bring CTRL.RXEN across (R170, R301, entry 14). -/

namespace Sys2Proof.Machine

/-- A request for an `rx_clk` edge decodes to event RX (R98, R127). -/
theorem decode_rxRequest {r : Request} (h : isRxRequest r = true) :
    ∃ v b, decode r.desc r.wdata = .instr (.evRx v b) := by
  simp only [isRxRequest, Bool.and_eq_true, decide_eq_true_eq] at h
  obtain ⟨hlo, hhi⟩ := h
  obtain ⟨v, hv⟩ : ∃ v : Bool, r.desc.toNat / 256 = 0x90 + v.toNat := by
    rcases (by omega : r.desc.toNat / 256 = 0x90 ∨ r.desc.toNat / 256 = 0x91) with h | h
    · exact ⟨false, h⟩
    · exact ⟨true, h⟩
  have hdesc : (encode (.evRx v (BitVec.ofNat 8 r.desc.toNat))).1 = r.desc := by
    apply BitVec.eq_of_toNat_eq
    rw [toNat_encode_evRx, BitVec.toNat_ofNat]
    omega
  exact ⟨v, _, hdesc ▸ decode_encode_evRx v _ r.wdata⟩

theorem step_rxRequest {s : State} {r : Request} {rest : List Request} (hscript : s.script = r :: rest)
    (h : isRxRequest r = true) : ∃ v b, step s = .next (rxEdge v b (takeRequest r rest s)) := by
  obtain ⟨v, b, hdecode⟩ := decode_rxRequest h
  exact ⟨v, b, step_of_instr s r rest _ hscript hdecode⟩

/-- A run of `rx_clk` edges completes and shifts the enable chain once for each of them, whatever it captures. -/
theorem runSteps_rxRequests (reqs rest : List Request) (s : State) (hscript : s.script = reqs ++ rest)
    (h : ∀ r ∈ reqs, isRxRequest r = true) :
    ∃ t, runSteps reqs.length s = .next t ∧ t.script = rest ∧ t.cfg = s.cfg ∧
      t.rxenSync = (shiftIn s.ctrlRxen)^[reqs.length] s.rxenSync := by
  induction reqs generalizing s with
  | nil => exact ⟨s, rfl, hscript, rfl, rfl⟩
  | cons r reqs ih =>
    obtain ⟨hr, hreqs⟩ := List.forall_mem_cons.1 h
    obtain ⟨v, b, hstep⟩ := step_rxRequest hscript hr
    have hnext := rxEdge_script v b (takeRequest r (reqs ++ rest) s)
    obtain ⟨⟨hrxen, _⟩, _⟩ := rxEdge_clkDomainKept v b (takeRequest r (reqs ++ rest) s)
    obtain ⟨t, hrun, hrest, hcfg, hchain⟩ := ih _ hnext hreqs
    refine ⟨t, (runSteps_succ _ s _ hstep).trans hrun, hrest, hcfg.trans (rxEdge_cfg v b _), ?_⟩
    rw [hchain, hrxen, rxEdge_rxenSync]
    rfl

/-- Settles O36: as many edges as there are stages leave nothing but CTRL.RXEN in the chain. -/
theorem enableCrossesInSyncStages : Obligations.EnableCrossesInSyncStages := by
  intro reqs rest s hchainLen hscript hlen hrx
  obtain ⟨t, hrun, hrest, hcfg, hchain⟩ := runSteps_rxRequests reqs rest s hscript hrx
  refine ⟨t, hrun, hrest, ?_⟩
  rw [rxEnabled, hcfg, hchain, iterate_shiftIn_eq_replicate _ _ _ (hchainLen ▸ hlen), hchainLen]
  exact lastStage_replicate _ _ _ (Config.syncStages_pos s.cfg)

end Sys2Proof.Machine

/-! The draw of an RXDATA pop after an overrun (R191, entry 4). -/

namespace Sys2Proof.Machine

theorem rxOverrun_iff (s : State) : rxOverrun s = true ↔ s.cfg.rxMask < s.wTotal - s.rTotal := by simp [rxOverrun]

theorem rxdataWord_of_overrun (s : State) (he : rxEmpty s = false) (ho : rxOverrun s = true) :
    rxdataWord s = (Config.drawByte s.draws).zeroExtend 32 := by
  simp [rxdataWord, he, rxPopByte, ho, zextByte]

theorem popRx_draws_of_overrun (pre post : State) (he : rxEmpty pre = false) (ho : rxOverrun pre = true) :
    (popRx pre post).draws = pre.draws + 1 := by
  simp [popRx, he, ho]

/-- An RXDATA read of an empty ring, or one without overrun, uses no draw (R190, R191). -/
theorem popRx_draws_of_empty_or_noOverrun (pre post : State) (h : rxEmpty pre = true ∨ pre.noOverrun) :
    (popRx pre post).draws = post.draws := by
  rcases popRx_cases pre post with ⟨_, e⟩ | ⟨he, ho, _⟩ | ⟨_, _, e⟩
  · rw [e]
  · rcases h with hempty | hno
    · simp [he] at hempty
    · simp [rxOverrun_eq_false pre hno] at ho
  · rw [e, advanceRptr_draws]

/-- Settles O50: the word is `rxdataWord`, and the pop alone counts a draw, since the edge parts leave the counter. -/
theorem overrunPopAnswersTheFreeByte : Obligations.OverrunPopAnswersTheFreeByte := by
  intro s
  refine ⟨_, rxdataWord s, rfl, rfl, fun hne hover => ?_, fun h => ?_⟩
  · have he := (rxEmpty_eq_false_iff s).2 hne
    have ho := (rxOverrun_iff s).2 hover
    exact ⟨rxdataWord_of_overrun s he ho, popRx_draws_of_overrun s _ he ho⟩
  · have hkept := popRx_draws_of_empty_or_noOverrun s (edgeParts s) (h.imp_left (rxEmpty_iff s).2)
    exact hkept.trans (edgeParts_draws s)

end Sys2Proof.Machine
